-- ==== Sys2Proof/Word.lean ====
section
/-! DEFINITION. The value types of 00_scope.md rule R10: a byte and a u16, both unsigned. -/

namespace Sys2Proof

/-- A *byte*: an unsigned integer of 8 bits; bit 0 is the least significant bit (R10). -/
abbrev Byte := BitVec 8

/-- A *u16*: an unsigned integer of 16 bits (R10). -/
abbrev U16 := BitVec 16

end Sys2Proof
end

