-- ==== Sys2Proof/Syntax.lean ====
section
/-! DEFINITION. The names, outcomes and requests that operations exchange (rules R36, R37, R180, R186, R190, R230), and
`Instr`: one constructor per row of spec/opcode_table.json. -/

namespace Sys2Proof

/-- A symbolic message name (R180): a symbol, compared for equality and passed on. The first eight are those with a
handler (R30). `nvalSet`, `buttonEvent` and `deviceTypeResponse` are the spec's labels for three messages the source
mentions without naming (R80). `other id` stands for any further catalog name (the source has "~30" and lists none, R75;
log 11). `undocumented` is the sentinel (R184), in no catalog's range. -/
inductive MsgName
  | setRTC
  | setLED
  | setVibrate
  | enableButton
  | disableButton
  | writeLCD
  | updateLCD
  | getDeviceType
  | nvalSet
  | buttonEvent
  | deviceTypeResponse
  | other (id : Nat)
  | undocumented
  deriving DecidableEq, Repr

/-- What a handler's `NotImplemented` is about. R230 names one cause inside a handler: an "unsupported callback kind"
(log 10). -/
inductive NotImplementedDetail
  | unsupportedCallbackKind
  deriving DecidableEq, Repr

/-- A handler's typed error (R190). -/
inductive HandlerError
  /-- The `enableButton` handler's error for a `callbackKind` other than `0x34` (R205, R234 b). -/
  | notImplemented (detail : NotImplementedDetail)
  /-- The payload is too short for a field the decode reads (R211). -/
  | malformedPayload
  deriving DecidableEq, Repr

/-- A handler's outcome (R190). -/
inductive HandlerOutcome
  | ok
  | failed (e : HandlerError)
  deriving DecidableEq, Repr, Inhabited

/-- The result of `DISPATCH` (R186). -/
inductive DispatchOutcome
  | handled (name : MsgName) (outcome : HandlerOutcome)
  | notImplemented (name : MsgName)
  deriving DecidableEq, Repr

/-- The two framing errors of the taxonomy, `InvalidMessage` in its two forms (R230, R232). -/
inductive ProtocolError
  /-- `InvalidMessage`: bad start byte (R231). -/
  | invalidMessage
  /-- `InvalidMessage("length mismatch")` (R232). -/
  | invalidMessageLengthMismatch
  /-- `InvalidChecksum` (R233). -/
  | invalidChecksum
  deriving DecidableEq, Repr

/-- One request for `COMPOSE(t, o, p)`, as the Outbound Factory makes it (R150, R210). -/
structure ComposeRequest where
  msgType : Byte
  optionBits : Byte
  payload : List Byte
  deriving DecidableEq, Repr, Inhabited

/-- The bit-addressed form of `optionBits` (R37, R160): eight bits, `b0` the least significant. -/
structure OptionBits where
  b7 : Bool
  b6 : Bool
  b5 : Bool
  b4 : Bool
  b3 : Bool
  b2 : Bool
  b1 : Bool
  b0 : Bool
  deriving DecidableEq, Repr

/-- Every row of spec/opcode_table.json. The rows of format F are frames as they are fetched from the receive buffer
after the start and length checks: `t` the msgType byte (not an operand of `setRTC`, whose code the source fixes), `o` the
option byte, `p` the payload, `ck` the received checksum; the length byte is `|p| + 6` (R72, R73). The rows of format OP
are operations with their operands (R80). -/
inductive Instr
  /-- FRAME, R70: the generic frame, any msgType. -/
  | frame (t o : Byte) (p : List Byte) (ck : U16)
  /-- setRTC, R201: msgType `0x26`. -/
  | setRTC (o : Byte) (p : List Byte) (ck : U16)
  /-- setLED, R203. -/
  | setLED (t o : Byte) (p : List Byte) (ck : U16)
  /-- setVibrate, R204. -/
  | setVibrate (t o : Byte) (p : List Byte) (ck : U16)
  /-- enableButton, R205. -/
  | enableButton (t o : Byte) (p : List Byte) (ck : U16)
  /-- disableButton, R206. -/
  | disableButton (t o : Byte) (p : List Byte) (ck : U16)
  /-- writeLCD, R207. -/
  | writeLCD (t o : Byte) (p : List Byte) (ck : U16)
  /-- updateLCD, R208. -/
  | updateLCD (t o : Byte) (p : List Byte) (ck : U16)
  /-- getDeviceType, R209. -/
  | getDeviceType (t o : Byte) (p : List Byte) (ck : U16)
  /-- nvalSet, R212: known but unsupported. -/
  | nvalSet (t o : Byte) (p : List Byte) (ck : U16)
  /-- buttonEvent, R210: known but unsupported when received. -/
  | buttonEvent (t o : Byte) (p : List Byte) (ck : U16)
  /-- deviceTypeResponse, R210: known but unsupported when received. -/
  | deviceTypeResponse (t o : Byte) (p : List Byte) (ck : U16)
  /-- undocumented, R181, R184: every code with no catalog entry. -/
  | undocumented (t o : Byte) (p : List Byte) (ck : U16)
  /-- REFLECT8, R100. -/
  | reflect8 (b : Byte)
  /-- CRC.TABLE, R101. -/
  | crcTable (i : Byte)
  /-- CRC.SEED, R103. -/
  | crcSeed
  /-- CRC.UPDATE, R104. -/
  | crcUpdate (c : U16) (b : Byte)
  /-- CHECKSUM, R105. -/
  | checksum (d : List Byte)
  /-- PARSE, R120, R130: the chunk it is given. -/
  | parse (chunk : List Byte)
  /-- COMPOSE, R150; the defaults are "zero-bits" and "empty". -/
  | compose (t : Byte) (o : Byte := 0) (p : List Byte := [])
  /-- OPT.UNPACK, R160. -/
  | optUnpack (o : Byte)
  /-- OPT.PACK, R160. -/
  | optPack (bits : OptionBits)
  /-- OPT.BIT, R161: "the type of `i` is a 3-bit number". -/
  | optBit (o : Byte) (i : BitVec 3)
  /-- OPT.FIELD, R162: `1 <= w` and `lo + w <= 8`. -/
  | optField (o : Byte) (lo w : Nat)
  /-- LED_STATE, R163. -/
  | ledState (o : Byte)
  /-- LCD_MODE, R164. -/
  | lcdMode (o : Byte)
  /-- ONE_ROW, R165. -/
  | oneRow (o : Byte)
  /-- TWO_ROWS, R166: `n` is the payload length. -/
  | twoRows (o : Byte) (n : Nat)
  /-- UPD_MODE, R167. -/
  | updMode (o : Byte)
  /-- CATALOG.NAME, R181. -/
  | catalogName (c : Byte)
  /-- CATALOG.CODE, R183: a name other than `undocumented`. -/
  | catalogCode (name : MsgName)
  /-- DISPATCH, R186. -/
  | dispatch (t o : Byte) (p : List Byte)
  /-- RESET, R260. -/
  | reset
  /-- CFG.WRITE, R263: one bit. -/
  | cfgWrite (v : Bool)
  deriving DecidableEq, Repr

end Sys2Proof
end

