-- ==== Sys2Proof/Config.lean ====
section
/-! DEFINITION. What is fixed for the machine (the constants of 00_scope.md rules R7 and R8) and the free values: constants
without a body, for what the spec leaves unspecified. -/

namespace Sys2Proof.Config

/-- `START`: byte 0 of every frame (R7). -/
def startByte : Byte := 0x01

/-- `OVERHEAD`: start, length, type, options and two checksum bytes (R7). -/
def overhead : Nat := 6

/-- `CRC_POLY` (R7). -/
def crcPoly : U16 := 0x1021

/-- `CRC_SEED` (R7). -/
def crcSeed : U16 := 0xFFFF

/-- `MIN_FRAME` (R8). -/
def minFrame : Nat := 6

/-- `MAX_FRAME` (R8). -/
def maxFrame : Nat := 255

/-- `MAX_PAYLOAD = MAX_FRAME - OVERHEAD` (R8). -/
def maxPayload : Nat := 249

/-- The one message code the source fixes: `setRTC` (R182). -/
def codeSetRTC : Byte := 0x26

/-- `CB_SUPPORTED`: the only supported `callbackKind` (R7, R205). -/
def cbSupported : Byte := 0x34

/-- Free byte: a latch that RESET leaves unspecified (R260, U6; log 6). -/
opaque freeByte : Nat → Byte

/-- Free u16: a latch that RESET leaves unspecified (R260, U6; log 6). -/
opaque freeWord : Nat → U16

/-- Free natural number: the cursor after RESET (R260, U6; log 6). -/
opaque freeCursor : Nat → Nat

/-- Free byte sequence: the payload latch after RESET (R260, U6; log 6). -/
opaque freeBytes : Nat → List Byte

/-- The COMPOSE that the Outbound Factory asks for where the environment's list names none: `t`, `o` and `p` are "chosen
outside the block" (R210, N14; log 8). -/
opaque freeRequest : Nat → ComposeRequest

/-- What a handler whose payload meets its contract returns after a COMPOSE it asked for was refused: "what the handler makes
of it is out of scope" (R239; log 9). -/
opaque freeOutcome : Nat → HandlerOutcome

end Sys2Proof.Config
end

