-- ==== Sys2Proof/Machine/Bits.lean ====
section
/-! DEFINITION. Byte sequences and byte order: the notation of 00_scope.md rules R10 to R12 and 20_memory.md rules R54 and
R55, as pure functions. -/

namespace Sys2Proof.Machine

/-- `lo8(v) = v mod 256` (R11). -/
def lo8 (v : U16) : Byte := v.extractLsb' 0 8

/-- `hi8(v) = (v >> 8) mod 256` (R11). -/
def hi8 (v : U16) : Byte := v.extractLsb' 8 8

/-- `u16le(lo, hi) = lo + 256 * hi`: low byte first (R11, R54). -/
def u16le (lo hi : Byte) : U16 := hi ++ lo

/-- A big-endian u16: the first byte is the high byte (R55, R201). -/
def u16be (hi lo : Byte) : U16 := hi ++ lo

/-- `B[i]` (R11): "every rule guards its reads", so the byte returned outside the sequence is read by no rule. -/
def byteAt (B : List Byte) (i : Nat) : Byte := B.getD i 0

/-- `B[i:j]`, the half-open slice of offsets `i <= k < j` (R11). -/
def slice (B : List Byte) (i j : Nat) : List Byte := (B.take j).drop i

/-- `MemRead(a, 2)`: two bytes assembled low byte first (R12). -/
def memRead2 (B : List Byte) (a : Nat) : U16 := u16le (byteAt B a) (byteAt B (a + 1))

/-- `MemWrite(a, 2, v)` at the end of the sequence being composed: the two bytes of `v`, low byte first (R12, R54). -/
def appendWord (B : List Byte) (v : U16) : List Byte := B ++ [lo8 v, hi8 v]

end Sys2Proof.Machine
end

