-- ==== Sys2Proof/Machine/Catalog.lean ====
section
/-! DEFINITION. The Message Catalog as plain data (10_state.md R29, 44_dispatch.md R180 to R184) and the constant set of
names that have a handler (R30). -/

namespace Sys2Proof.Machine

/-- `CATALOG`: the `(code, name)` pairs (R29). -/
abbrev Catalog := List (Byte × MsgName)

/-- `CATALOG.NAME(c)`: the entry for `c`, else the sentinel (R181). -/
def Catalog.name : Catalog → Byte → MsgName
  | [], _ => .undocumented
  | (code, n) :: rest, c => if code = c then n else Catalog.name rest c

/-- `CATALOG.CODE(name)`: the code whose entry is `name`, or absent (R183). -/
def Catalog.code : Catalog → MsgName → Option Byte
  | [], _ => none
  | (c, name) :: rest, n => if name = n then some c else Catalog.code rest n

/-- What R182 asks of a catalog: it maps `0x26` to `setRTC`, no two codes to one name and no code to two names (R29), and
`undocumented` is not in its range. -/
def Catalog.admissible (cat : Catalog) : Bool :=
  decide (cat.name Config.codeSetRTC = .setRTC) && decide (cat.map Prod.snd).Nodup && decide (cat.map Prod.fst).Nodup &&
    decide (MsgName.undocumented ∉ cat.map Prod.snd)

/-- `CAT-S` of 95_test_vectors.md: the one entry the source fixes (R182). -/
def catS : Catalog := [(0x26, .setRTC)]

/-- `CAT-T` of 95_test_vectors.md: the test catalog of the spec's vectors and programs. The codes other than `0x26` are
recalled, not in the source (R76, G1), and the code of `setLED` is arbitrary (log 3). -/
def catT : Catalog :=
  [(0x01, .getDeviceType), (0x02, .deviceTypeResponse), (0x0C, .setLED), (0x23, .setVibrate), (0x26, .setRTC),
    (0x30, .nvalSet), (0x34, .buttonEvent), (0x40, .writeLCD), (0x43, .updateLCD), (0x46, .enableButton),
    (0x47, .disableButton)]

/-- The catalog that State.reset holds: DESIGN CHOICE, the catalog of the spec's own programs (log 3). -/
def catalogAtReset : Catalog := catT

/-- `HANDLERS`: the eight names with a handler; constant (R30). -/
def handlers : List MsgName :=
  [.setRTC, .setLED, .setVibrate, .enableButton, .disableButton, .writeLCD, .updateLCD, .getDeviceType]

end Sys2Proof.Machine
end

