-- ==== Sys2Proof/WellFormed.lean ====
section
/-! DEFINITION. The checks an instruction passes before it means anything: the operand ranges of the spec, and for a frame
row that the catalog resolves its msgType to the row's name (R75, R182). -/

namespace Sys2Proof

/-- `MsgName` values that no labelled row of the opcode table stands for: the generic FRAME row is theirs (log 18). -/
def MsgName.isOther : MsgName → Bool
  | .other _ => true
  | _ => false

/-- A payload fits the 8-bit length field: `|p| + 6 <= 255` (R8, R73). -/
def payloadFits (p : List Byte) : Bool := decide (p.length ≤ Config.maxPayload)

/-- Well-formedness under a catalog. The generic FRAME row is for a msgType whose name has no row of its own; a catalog that
resolves a second code to `setRTC` is not admissible (R182), and such a code is left to the FRAME row too. -/
def Instr.wf (cat : Machine.Catalog) : Instr → Bool
  | .frame t _ p _ =>
    payloadFits p && ((cat.name t).isOther || (decide (cat.name t = .setRTC) && decide (t ≠ Config.codeSetRTC)))
  | .setRTC _ p _ => payloadFits p && decide (cat.name Config.codeSetRTC = .setRTC)
  | .setLED t _ p _ => payloadFits p && decide (cat.name t = .setLED)
  | .setVibrate t _ p _ => payloadFits p && decide (cat.name t = .setVibrate)
  | .enableButton t _ p _ => payloadFits p && decide (cat.name t = .enableButton)
  | .disableButton t _ p _ => payloadFits p && decide (cat.name t = .disableButton)
  | .writeLCD t _ p _ => payloadFits p && decide (cat.name t = .writeLCD)
  | .updateLCD t _ p _ => payloadFits p && decide (cat.name t = .updateLCD)
  | .getDeviceType t _ p _ => payloadFits p && decide (cat.name t = .getDeviceType)
  | .nvalSet t _ p _ => payloadFits p && decide (cat.name t = .nvalSet)
  | .buttonEvent t _ p _ => payloadFits p && decide (cat.name t = .buttonEvent)
  | .deviceTypeResponse t _ p _ => payloadFits p && decide (cat.name t = .deviceTypeResponse)
  | .undocumented t _ p _ => payloadFits p && decide (cat.name t = .undocumented)
  | .optField _ lo w => decide (1 ≤ w) && decide (lo + w ≤ 8)
  | .catalogCode n => decide (n ≠ .undocumented)
  | .reflect8 _ => true
  | .crcTable _ => true
  | .crcSeed => true
  | .crcUpdate _ _ => true
  | .checksum _ => true
  | .parse _ => true
  | .compose _ _ _ => true
  | .optUnpack _ => true
  | .optPack _ => true
  | .optBit _ _ => true
  | .ledState _ => true
  | .lcdMode _ => true
  | .oneRow _ => true
  | .twoRows _ _ => true
  | .updMode _ => true
  | .catalogName _ => true
  | .dispatch _ _ _ => true
  | .reset => true
  | .cfgWrite _ => true

end Sys2Proof
end

