-- ==== Sys2Proof/Decode.lean ====
section
/-! DEFINITION. The decoder of the one frame format (30_encoding.md R70 to R74; the framing checks of 41_parse.md R122 to
R125), total on any bytes and rejecting by name; after it the encoder, from the same format. -/

namespace Sys2Proof

open Sys2Proof.Machine

/-- Why a byte sequence is no frame. The last three are the causes of one error, `InvalidMessage("length mismatch")`. -/
inductive DecodeError
  /-- There is no byte at all. -/
  | noBytes
  /-- Byte 0 is not `0x01` (R77 a, R122). -/
  | badStart
  /-- The sequence ends before the length byte (R77 c, R123). -/
  | lengthMissing
  /-- The declared length is below 6 (R77 c, R123). -/
  | lengthBelowMinimum
  /-- The sequence is shorter than the declared length (R77 b, R124). -/
  | shorterThanDeclared
  deriving DecidableEq, Repr

/-- The row of the opcode table that a frame with msgType `t` is a case of, under a catalog (R75, R181; log 18). -/
def frameRow (cat : Catalog) (t o : Byte) (p : List Byte) (ck : U16) : Instr :=
  match cat.name t with
  | .setRTC => if t = Config.codeSetRTC then .setRTC o p ck else .frame t o p ck
  | .setLED => .setLED t o p ck
  | .setVibrate => .setVibrate t o p ck
  | .enableButton => .enableButton t o p ck
  | .disableButton => .disableButton t o p ck
  | .writeLCD => .writeLCD t o p ck
  | .updateLCD => .updateLCD t o p ck
  | .getDeviceType => .getDeviceType t o p ck
  | .nvalSet => .nvalSet t o p ck
  | .buttonEvent => .buttonEvent t o p ck
  | .deviceTypeResponse => .deviceTypeResponse t o p ck
  | .other _ => .frame t o p ck
  | .undocumented => .undocumented t o p ck

/-- The fields of a frame `F` of declared length `L` (R125): `t = F[2]`, `o = F[3]`, `p = F[4 : L-2]`, the checksum from
`F[L-2]` (low) and `F[L-1]`. -/
def fieldsOf (cat : Catalog) (F : List Byte) (L : Nat) : Instr :=
  frameRow cat (byteAt F 2) (byteAt F 3) (slice F 4 (L - 2)) (memRead2 F (L - 2))

/-- The frame at the start of `B` and the bytes after it: start byte, presence of the length byte, minimum length,
declared length against the buffer, then the fields, in that order (R122 to R125, R131). -/
def decode (cat : Catalog) (B : List Byte) : Except DecodeError (Instr × List Byte) :=
  match B with
  | [] => .error .noBytes
  | start :: afterStart =>
    if start ≠ Config.startByte then .error .badStart
    else
      match afterStart with
      | [] => .error .lengthMissing
      | len :: _ =>
        if len.toNat < Config.minFrame then .error .lengthBelowMinimum
        else if B.length < len.toNat then .error .shorterThanDeclared
        else .ok (fieldsOf cat (B.take len.toNat) len.toNat, B.drop len.toNat)

/-- The checksummed bytes of a frame: start, length, msgType, optionBits, payload (R72, R73, R150). -/
def headBytes (t o : Byte) (p : List Byte) : List Byte :=
  [Config.startByte, BitVec.ofNat 8 (p.length + Config.overhead), t, o] ++ p

/-- A whole frame with checksum `ck`, low byte first (R70, R54). -/
def frameBytes (t o : Byte) (p : List Byte) (ck : U16) : List Byte := appendWord (headBytes t o p) ck

/-- The wire bytes of an instruction: a frame row's frame; the rows of format OP have no encoding (R80, D1). -/
def encode : Instr → Option (List Byte)
  | .frame t o p ck => some (frameBytes t o p ck)
  | .setRTC o p ck => some (frameBytes Config.codeSetRTC o p ck)
  | .setLED t o p ck => some (frameBytes t o p ck)
  | .setVibrate t o p ck => some (frameBytes t o p ck)
  | .enableButton t o p ck => some (frameBytes t o p ck)
  | .disableButton t o p ck => some (frameBytes t o p ck)
  | .writeLCD t o p ck => some (frameBytes t o p ck)
  | .updateLCD t o p ck => some (frameBytes t o p ck)
  | .getDeviceType t o p ck => some (frameBytes t o p ck)
  | .nvalSet t o p ck => some (frameBytes t o p ck)
  | .buttonEvent t o p ck => some (frameBytes t o p ck)
  | .deviceTypeResponse t o p ck => some (frameBytes t o p ck)
  | .undocumented t o p ck => some (frameBytes t o p ck)
  | .reflect8 _ => none
  | .crcTable _ => none
  | .crcSeed => none
  | .crcUpdate _ _ => none
  | .checksum _ => none
  | .parse _ => none
  | .compose _ _ _ => none
  | .optUnpack _ => none
  | .optPack _ => none
  | .optBit _ _ => none
  | .optField _ _ _ => none
  | .ledState _ => none
  | .lcdMode _ => none
  | .oneRow _ => none
  | .twoRows _ _ => none
  | .updMode _ => none
  | .catalogName _ => none
  | .catalogCode _ => none
  | .dispatch _ _ _ => none
  | .reset => none
  | .cfgWrite _ => none

/-- The length a table word's frame has. The table's rows give the length byte no field of their own, so a word may leave
it out: a length below 6, which no frame has (R77), is completed to the smallest frame, and the bytes above the 32-bit
header are zeros (log 17). -/
def tableLength (w : Nat) : Nat := max Config.minFrame ((w / 2 ^ 16) % 256)

/-- The bytes that a word of spec/opcode_table.json stands for: the 32-bit header with byte 0 the most significant byte
(R80), then zeros up to the declared length. Rows of format OP have no bits and so no bytes (log 17). -/
def tableBytes (nbits w : Nat) : List Byte :=
  if nbits = 32 then
    [BitVec.ofNat 8 (w / 2 ^ 24), BitVec.ofNat 8 (tableLength w), BitVec.ofNat 8 (w / 2 ^ 8), BitVec.ofNat 8 w] ++
      List.replicate (tableLength w - 4) 0
  else []

/-- What the decoder reads from a table word, under the catalog of State.reset (log 17). -/
def decodeTableWord (nbits w : Nat) : Option Instr :=
  match decode catalogAtReset (tableBytes nbits w) with
  | .ok (i, _) => some i
  | .error _ => none

end Sys2Proof
end

