-- ==== Sys2Proof/Machine/Crc.lean ====
section
/-! DEFINITION. The Checksum Engine as pure functions (40_crc.md rules R100 to R107). -/

namespace Sys2Proof.Machine

/-- `REFLECT8(b)`: bit `i` of the result is bit `7-i` of `b` (R100; 90_conflicts.md C7: the plain reversal). -/
def reflect8 (b : Byte) : Byte :=
  b.extractLsb' 0 1 ++ b.extractLsb' 1 1 ++ b.extractLsb' 2 1 ++ b.extractLsb' 3 1 ++
    b.extractLsb' 4 1 ++ b.extractLsb' 5 1 ++ b.extractLsb' 6 1 ++ b.extractLsb' 7 1

/-- One shift of the 16-bit register: test bit 15, shift left dropping the bit shifted out, then XOR the polynomial if
the tested bit was 1 (R101, D14). -/
def crcShift (r : U16) : U16 := if r.getLsbD 15 then (r <<< 1) ^^^ Config.crcPoly else r <<< 1

/-- `n` shifts. -/
def crcShifts : Nat → U16 → U16
  | 0, r => r
  | n + 1, r => crcShifts n (crcShift r)

/-- `T[i]`: eight shifts from `i << 8` (R101). -/
def crcTable (i : Byte) : U16 := crcShifts 8 (i.setWidth 16 <<< 8)

/-- The byte as the engine takes it: reflected when `CFG.REFLECT_IN = 1` (R56, R104). -/
def crcInput (reflectIn : Bool) (b : Byte) : Byte := if reflectIn then reflect8 b else b

/-- `CRC.UPDATE(c, b)` (R104): the table is looked up by the high byte XOR the input byte; "combine" is XOR (D13). -/
def crcUpdate (reflectIn : Bool) (c : U16) (b : Byte) : U16 :=
  crcTable (hi8 c ^^^ crcInput reflectIn b) ^^^ ((lo8 c).setWidth 16 <<< 8)

/-- The running value after the bytes of `D`, from `c`, in increasing offset order (R56, R105, R106 a). -/
def crcContinue (reflectIn : Bool) (c : U16) (D : List Byte) : U16 := D.foldl (crcUpdate reflectIn) c

/-- `CHECKSUM(D)`: seed, update with every byte, no final XOR and no output reflection (R105). -/
def checksum (reflectIn : Bool) (D : List Byte) : U16 := crcContinue reflectIn Config.crcSeed D

/-- `CRC.UPDATE` as a shift register (R107). -/
def crcUpdateSerial (reflectIn : Bool) (c : U16) (b : Byte) : U16 :=
  crcShifts 8 (c ^^^ ((crcInput reflectIn b).setWidth 16 <<< 8))

end Sys2Proof.Machine
end

