-- ==== Sys2Proof/Machine/Flags.lean ====
section
/-! DEFINITION. The Option Unpacker (43_options.md R160 to R167): the flag bits and the sub-field of the `optionBits` byte.
The block has no flags or condition codes of its own (R28); these are the only flag bits the spec reads. -/

namespace Sys2Proof.Machine

/-- `OPT.BIT(o, i) = (o >> i) mod 2`; bit 0 is the least significant (R161, D9; log 21). -/
def optBit (o : Byte) (i : Nat) : Bool := o.getLsbD i

/-- `OPT.FIELD(o, lo, w) = (o >> lo) mod 2^w` (R162). -/
def optField (o : Byte) (lo w : Nat) : Nat := (o.toNat >>> lo) % 2 ^ w

/-- `OPT.UNPACK(o)`: the eight bits (R160). -/
def optUnpack (o : Byte) : OptionBits :=
  { b7 := optBit o 7, b6 := optBit o 6, b5 := optBit o 5, b4 := optBit o 4, b3 := optBit o 3, b2 := optBit o 2,
    b1 := optBit o 1, b0 := optBit o 0 }

/-- `OPT.PACK(bits) = sum over i of bit_i * 2^i` (R160). -/
def optPack (b : OptionBits) : Byte :=
  BitVec.ofNat 8
    (b.b0.toNat + b.b1.toNat * 2 + b.b2.toNat * 4 + b.b3.toNat * 8 + b.b4.toNat * 16 + b.b5.toNat * 32 +
      b.b6.toNat * 64 + b.b7.toNat * 128)

/-- `LED_STATE(o) = o[0]` (R163). -/
def ledState (o : Byte) : Bool := optBit o 0

/-- `LCD_MODE(o) = o[2:0]`, the raw number (R164, D28). -/
def lcdMode (o : Byte) : Nat := optField o 0 3

/-- `ONE_ROW(o) = o[4]` (R165). -/
def oneRow (o : Byte) : Bool := optBit o 4

/-- `TWO_ROWS(o, n) = (o[4] = 0) and (n > 13)` (R166, D15). -/
def twoRows (o : Byte) (n : Nat) : Bool := !optBit o 4 && decide (n > 13)

/-- `UPD_MODE(o) = o[2:0]`, the raw number (R167, D28). -/
def updMode (o : Byte) : Nat := optField o 0 3

end Sys2Proof.Machine
end

