-- ==== Sys2Proof/Machine/State.lean ====
section
/-! DEFINITION. The machine's state as plain data (10_state.md), the records it holds, and the state after RESET (R33). -/

namespace Sys2Proof.Machine

/-- A frame record of a PARSE result: the decoded frame and its dispatch outcome (R120). -/
structure FrameRecord where
  msgType : Byte
  optionBits : Byte
  payload : List Byte
  outcome : DispatchOutcome
  deriving DecidableEq, Repr

/-- `ParseResult` (R120): the frames in arrival order and at most one framing error. -/
structure ParseResult where
  frames : List FrameRecord
  error : Option ProtocolError
  deriving DecidableEq, Repr

/-- The result of `COMPOSE` (R150, R152). -/
inductive ComposeResult
  | bytes (frame : List Byte)
  | payloadTooLong
  deriving DecidableEq, Repr

/-- What one operation returned (R13, R275). -/
inductive OpResult
  /-- A byte: REFLECT8, OPT.PACK. -/
  | byte (b : Byte)
  /-- A u16: CRC.TABLE, CRC.SEED, CRC.UPDATE, CHECKSUM. -/
  | word (w : U16)
  /-- The eight bits of OPT.UNPACK. -/
  | bits (b : OptionBits)
  /-- One bit or truth value: OPT.BIT, LED_STATE, ONE_ROW, TWO_ROWS. -/
  | bit (b : Bool)
  /-- An unsigned number: OPT.FIELD, LCD_MODE, UPD_MODE. -/
  | number (n : Nat)
  /-- CATALOG.NAME. -/
  | name (n : MsgName)
  /-- CATALOG.CODE: a code or absent. -/
  | code (c : Option Byte)
  /-- DISPATCH. -/
  | dispatched (d : DispatchOutcome)
  /-- PARSE. -/
  | parsed (r : ParseResult)
  /-- COMPOSE. -/
  | composed (r : ComposeResult)
  deriving DecidableEq, Repr

/-- The fields of a `setRTC` payload (R201); `extension` holds the 12/24-hour flag and the day/month-order flag. -/
structure RtcFields where
  year : U16
  month : Byte
  day : Byte
  weekday : Byte
  hour : Byte
  minute : Byte
  second : Byte
  extension : Option (Byte × Byte)
  deriving DecidableEq, Repr

/-- The fields of a `setVibrate` payload (R204). -/
structure VibrateFields where
  action : Byte
  onTime : U16
  offTime : U16
  cycles : Byte
  deriving DecidableEq, Repr

/-- The key of a button mapping (R205, R206). -/
structure ButtonKey where
  mode : Byte
  buttonId : Byte
  pressType : Byte
  deriving DecidableEq, Repr

/-- One row record of `writeLCD`: an index byte and a 12-byte span (R207). -/
structure LcdRow where
  index : Byte
  bits : List Byte
  deriving DecidableEq, Repr

/-- What a handler's contract reads from the option taps and the payload (R201 to R209). -/
inductive HandlerView
  | setRTC (v : RtcFields)
  | setLED (state : Bool)
  | setVibrate (v : VibrateFields)
  | enableButton (key : ButtonKey) (callbackKind callbackData : Byte)
  | disableButton (key : ButtonKey)
  | writeLCD (mode : Nat) (row1 : LcdRow) (row2 : Option LcdRow)
  | updateLCD (mode : Nat)
  | getDeviceType
  deriving DecidableEq, Repr

/-- One hand-over to a handler: the option byte and the whole payload, unchanged (R187), and what the contract decodes from
them (`none` when the payload is malformed, R211); log 19. -/
structure HandlerCall where
  name : MsgName
  optionBits : Byte
  payload : List Byte
  view : Option HandlerView
  deriving DecidableEq, Repr

/-- The transaction-local latches (R23, R25). -/
structure Latches where
  /-- `CRC`, the running value (R23). -/
  crc : U16
  /-- `H_LEN` (R25). -/
  hLen : Byte
  /-- `H_TYPE` (R25). -/
  hType : Byte
  /-- `H_OPT` (R25). -/
  hOpt : Byte
  /-- `H_PAY` (R25). -/
  hPay : List Byte
  /-- `H_CK` (R25). -/
  hCk : U16
  deriving DecidableEq, Repr

/-- The state of the block and of its boundary. -/
structure State where
  /-- `CATALOG` (R29): an argument of the model, written by nothing. -/
  catalog : Catalog
  /-- `RX_MAX` (R9, D23): `none` is unbounded. -/
  rxMax : Option Nat
  /-- `CFG.REFLECT_IN`, one bit (R22). -/
  reflectIn : Bool
  /-- The latches (R23, R25). -/
  latches : Latches
  /-- `POS`, the parse cursor (R27). -/
  pos : Nat
  /-- `RXB`, the chunk of the PARSE in progress; empty otherwise (R24). -/
  rxb : List Byte
  /-- `TXB`, the frame the last COMPOSE built (R31). -/
  txb : List Byte
  /-- The PARSE in progress, if there is one: the records of the frames delivered so far (R33, R130). -/
  parse : Option (List FrameRecord)
  /-- The environment's explicit reset request (R260; log 7). -/
  resetLine : Bool
  /-- The operations that wait to start, first to start first (R35, R264, R275; log 1). The spec gives no depth and no
  behaviour when the queue is full (N9): unbounded and lossless by DESIGN CHOICE (log 25). -/
  requests : List Instr
  /-- What each of the next handler runs will ask COMPOSE for (R4, R127; log 8). -/
  handlerAsks : List (List ComposeRequest)
  /-- What was handed to handlers, oldest first (R187; log 19). -/
  handlerCalls : List HandlerCall
  /-- The results returned, oldest first (R275; log 1). -/
  results : List OpResult
  /-- The outbound write queue's frames, oldest first (R31, R35, R154): unbounded and lossless by DESIGN CHOICE (N9;
  log 25). -/
  txQueue : List (List Byte)
  /-- The model's own counter of free values drawn (log 6, 8, 9). -/
  freeIndex : Nat
  deriving DecidableEq, Repr

/-- Why the machine stops with a fault. Both are safe: the model stops where the spec gives no step. -/
inductive Fault
  /-- Raised by `exec` of PARSE while a PARSE is in progress: "a model gives the block no step for it" (R264, U7 `stuck`).
  `step` never raises it: it lets the request wait. Safe. -/
  | parseInProgress
  /-- Raised by `step` when a PARSE is in progress and the cursor is outside the buffer, which R27 rules out. Safe; no
  state that meets the invariant raises it. -/
  | cursorOutsideBuffer
  deriving DecidableEq, Repr

/-- Why an instruction is refused. All are safe: the model stops where the spec admits no step. -/
inductive Refusal
  /-- Raised by `exec` for an instruction without a meaning. Safe. -/
  | notModelled (mnemonic : String)
  /-- Raised by `exec` of CFG.WRITE while a PARSE is in progress: "not an admitted step" (R263, U8 `refuse`). Safe. -/
  | transactionInProgress
  /-- Raised by `exec` of PARSE for a chunk longer than a fixed `RX_MAX` (U10 `refuse`). Safe. -/
  | chunkTooLong
  /-- Raised by `exec` for operand values that are no form of the operation: an OPT.FIELD outside the byte (R162),
  CATALOG.CODE of the sentinel (R183), a frame row whose payload no frame can hold (R73) or whose msgType the catalog does
  not resolve to the row's name (R75; log 14). Safe. -/
  | notAForm
  deriving DecidableEq, Repr

/-- The latches after reset: unspecified in the spec (R33); zero and empty by DESIGN CHOICE (log 4). -/
def Latches.reset : Latches :=
  { crc := 0, hLen := 0, hType := 0, hOpt := 0, hPay := [], hCk := 0 }

/-- The machine right after reset (R33, R260): `CFG.REFLECT_IN = 1`, `RXB` and `TXB` empty, nothing in progress. The
catalog is log 3's, the bound R9's default, the unspecified latches and the boundary log 1's and 4's. -/
def State.reset : State :=
  { catalog := catalogAtReset, rxMax := none, reflectIn := true, latches := Latches.reset, pos := 0, rxb := [], txb := [],
    parse := none, resetLine := false, requests := [], handlerAsks := [], handlerCalls := [], results := [], txQueue := [],
    freeIndex := 0 }

end Sys2Proof.Machine
end

