-- ==== Sys2Proof/Machine/Operands.lean ====
section
/-! DEFINITION. The operand forms of the messages: the payload decodes of 45_handler_contracts.md (R201 to R209) and when a
payload is malformed (R211). Each is a pure function of the option byte and the payload (R200). -/

namespace Sys2Proof.Machine

/-- What a handler's contract makes of one message: what it decodes (`none` when malformed) and its outcome (R190). -/
structure Contract where
  view : Option HandlerView
  outcome : HandlerOutcome
  deriving DecidableEq, Repr

/-- A payload too short for a field the decode reads (R211). -/
def Contract.malformed : Contract := { view := none, outcome := .failed .malformedPayload }

/-- A decode that succeeds. -/
def Contract.accept (v : HandlerView) : Contract := { view := some v, outcome := .ok }

/-- The `setRTC` fields (R201): the year big-endian, `p[2]` unused, hour and weekday the same byte, the two extension bytes
only when the payload is longer than 8. -/
def rtcFields (p : List Byte) : RtcFields :=
  { year := u16be (byteAt p 0) (byteAt p 1), month := byteAt p 4, day := byteAt p 3, weekday := byteAt p 5,
    hour := byteAt p 5, minute := byteAt p 6, second := byteAt p 7,
    extension := if p.length > 8 then some (byteAt p 8, byteAt p 9) else none }

/-- `setRTC`: malformed below 8 bytes and at exactly 9 (R201, R211). -/
def setRTCContract (p : List Byte) : Contract :=
  if p.length < 8 ∨ p.length = 9 then .malformed else .accept (.setRTC (rtcFields p))

/-- `setLED`: bit 0 of the option byte; the payload is not read (R203). -/
def setLEDContract (o : Byte) : Contract := .accept (.setLED (ledState o))

/-- `setVibrate`: two little-endian durations between the action and the cycles byte (R204). -/
def setVibrateContract (p : List Byte) : Contract :=
  if p.length < 6 then .malformed
  else
    .accept (.setVibrate
      { action := byteAt p 0, onTime := memRead2 p 1, offTime := memRead2 p 3, cycles := byteAt p 5 })

/-- The `(mode, buttonId, pressType)` key, one byte each (R205, R206, G2; log 20). -/
def buttonKey (p : List Byte) : ButtonKey :=
  { mode := byteAt p 0, buttonId := byteAt p 1, pressType := byteAt p 2 }

/-- `enableButton`: only `callbackKind = 0x34` is supported (R205). -/
def enableButtonContract (p : List Byte) : Contract :=
  if p.length < 5 then .malformed
  else
    { view := some (.enableButton (buttonKey p) (byteAt p 3) (byteAt p 4))
      outcome :=
        if byteAt p 3 = Config.cbSupported then .ok else .failed (.notImplemented .unsupportedCallbackKind) }

/-- `disableButton` (R206). -/
def disableButtonContract (p : List Byte) : Contract :=
  if p.length < 3 then .malformed else .accept (.disableButton (buttonKey p))

/-- The row record at payload offset `k`: an index byte and 12 bytes (R207). -/
def lcdRow (p : List Byte) (k : Nat) : LcdRow := { index := byteAt p k, bits := slice p (k + 1) (k + 13) }

/-- `writeLCD`: one row record, or two when `TWO_ROWS` holds (R207, R211). -/
def writeLCDContract (o : Byte) (p : List Byte) : Contract :=
  if p.length < 13 ∨ (twoRows o p.length ∧ p.length < 26) then .malformed
  else
    .accept (.writeLCD (lcdMode o) (lcdRow p 0) (if twoRows o p.length then some (lcdRow p 13) else none))

/-- `updateLCD`: the mode; the payload is not read (R208). -/
def updateLCDContract (o : Byte) : Contract := .accept (.updateLCD (updMode o))

/-- `getDeviceType`: a payload, if there is one, is ignored (R209, D27). -/
def getDeviceTypeContract : Contract := .accept .getDeviceType

end Sys2Proof.Machine
end

