-- ==== Sys2Proof/Machine/Ops.lean ====
section
/-! DEFINITION. The shared operations of the machine: returning a result, composing, dispatching, receiving one frame,
reporting a framing error (the analogue of taking an exception, 60_exceptions.md section 2). -/

namespace Sys2Proof.Machine

/-- What a meaning answers. -/
abbrev Result := Host.Outcome State Fault Refusal

/-- An operation returns a result to the environment (R275). -/
def State.returns (s : State) (r : OpResult) : State := { s with results := s.results ++ [r] }

/-- `CRC <- v` (R23). -/
def State.setCrc (s : State) (v : U16) : State := { s with latches := { s.latches with crc := v } }

/-- `H_LEN <- v` (R123). -/
def State.setLen (s : State) (v : Byte) : State := { s with latches := { s.latches with hLen := v } }

/-- The header latches of a frame with fields `t`, `o`, `p`, `ck` (R25, R123, R125). -/
def State.latchFrame (s : State) (t o : Byte) (p : List Byte) (ck : U16) : State :=
  { s with
    latches :=
      { crc := s.latches.crc, hLen := BitVec.ofNat 8 (p.length + Config.overhead), hType := t, hOpt := o, hPay := p,
        hCk := ck } }

/-! ### COMPOSE -/

/-- The bytes of a composed frame: the head, then its checksum low byte first (R150). -/
def composeBytes (reflectIn : Bool) (t o : Byte) (p : List Byte) : List Byte :=
  frameBytes t o p (checksum reflectIn (headBytes t o p))

/-- `COMPOSE(t, o, p)` as a value: the frame, or the refusal for more than 249 payload bytes (R150, R152). -/
def composeValue (reflectIn : Bool) (r : ComposeRequest) : ComposeResult :=
  if r.payload.length > Config.maxPayload then .payloadTooLong
  else .bytes (composeBytes reflectIn r.msgType r.optionBits r.payload)

/-- `COMPOSE` on the state: a refusal emits nothing and changes nothing (R152); a frame is built in `TXB` and handed to
the write queue whole (R31, R154), which takes it whatever it already holds (log 25). -/
def State.compose (s : State) (r : ComposeRequest) : State :=
  match composeValue s.reflectIn r with
  | .payloadTooLong => s.returns (.composed .payloadTooLong)
  | .bytes f =>
    ({ (s.setCrc (checksum s.reflectIn (headBytes r.msgType r.optionBits r.payload))) with
        txb := f, txQueue := s.txQueue ++ [f] }).returns (.composed (.bytes f))

/-- The COMPOSE operations a handler asks for, one after the other (R62 c, R268). -/
def State.composeAll (s : State) : List ComposeRequest → State
  | [] => s
  | r :: rest => (s.compose r).composeAll rest

/-! ### DISPATCH -/

/-- What the handler that runs next asks COMPOSE for: the environment's entry; for `getDeviceType` exactly one request,
the entry's first, or a free one when the environment names none (R209, R210; log 8). -/
def State.asks (s : State) (n : MsgName) : List ComposeRequest :=
  match n with
  | .getDeviceType => [(s.handlerAsks.headD []).headD (Config.freeRequest s.freeIndex)]
  | _ => s.handlerAsks.headD []

/-- Every request fits a frame (R152). -/
def asksFit (asks : List ComposeRequest) : Bool := asks.all fun r => payloadFits r.payload

/-- What a handler returns. A decode failure of its contract comes back whatever else happens (R190, R205, R211). Where the
contract is met, the outcome is `Ok`, or an open one if a COMPOSE it asked for was refused: what the handler makes of that
is out of scope (R239; log 9). -/
def handlerReturn (asks : List ComposeRequest) (outcome : HandlerOutcome) (k : Nat) : HandlerOutcome :=
  match outcome with
  | .failed e => .failed e
  | .ok => if asksFit asks then .ok else Config.freeOutcome k

/-- The hand-over to a handler: the message passed, the environment's entry used up (R187). -/
def State.handOver (s : State) (call : HandlerCall) : State :=
  { s with
    handlerCalls := s.handlerCalls ++ [call], handlerAsks := s.handlerAsks.tail, freeIndex := s.freeIndex + 1 }

/-- One arm of the mux: the handler of `n` gets the option byte and the whole payload, runs to completion with every
COMPOSE it asks for, and its outcome comes back inside `Handled` (R62 c, R127, R186, R187). -/
def State.runHandler (s : State) (n : MsgName) (c : Contract) (o : Byte) (p : List Byte) : State × DispatchOutcome :=
  ((s.handOver { name := n, optionBits := o, payload := p, view := c.view }).composeAll (s.asks n),
    .handled n (handlerReturn (s.asks n) c.outcome s.freeIndex))

/-- `DISPATCH(t, o, p)`: the mux with one arm per name in `HANDLERS` and one default arm, selected by the catalog's name
for `t` alone (R185, R186). -/
def State.dispatch (s : State) (t o : Byte) (p : List Byte) : State × DispatchOutcome :=
  match s.catalog.name t with
  | .setRTC => s.runHandler .setRTC (setRTCContract p) o p
  | .setLED => s.runHandler .setLED (setLEDContract o) o p
  | .setVibrate => s.runHandler .setVibrate (setVibrateContract p) o p
  | .enableButton => s.runHandler .enableButton (enableButtonContract p) o p
  | .disableButton => s.runHandler .disableButton (disableButtonContract p) o p
  | .writeLCD => s.runHandler .writeLCD (writeLCDContract o p) o p
  | .updateLCD => s.runHandler .updateLCD (updateLCDContract o) o p
  | .getDeviceType => s.runHandler .getDeviceType getDeviceTypeContract o p
  | n => (s, .notImplemented n)

/-! ### PARSE -/

/-- The records of the PARSE in progress; none before the first frame. -/
def State.records (s : State) : List FrameRecord := s.parse.getD []

/-- A PARSE starts on a chunk that has at least one byte: `POS <- 0` (R121, R130). -/
def State.startParse (s : State) (chunk : List Byte) : State := { s with rxb := chunk, pos := 0, parse := some [] }

/-- A PARSE returns its result; `RXB` holds nothing after it (R24, R120). -/
def State.endParse (s : State) (error : Option ProtocolError) : State :=
  { s with
    parse := none, rxb := [], results := s.results ++ [.parsed { frames := s.records, error := error }] }

/-- TAKING A FRAMING ERROR (R236): the PARSE ends, the frames before the failing one stay delivered, the rest of the
buffer is dropped, the error is returned; nothing is saved and nothing else changes. There is no return-from-error
operation (R238): the next operation simply starts. -/
def State.takeError (s : State) (e : ProtocolError) : State := s.endParse (some e)

/-- Another frame follows: `m > L` and `RXB[POS+L] = 0x01` (R128). -/
def State.anotherFollows (s : State) (L : Nat) : Bool :=
  decide (s.rxb.length - s.pos > L) && decide (s.rxb[s.pos + L]? = some Config.startByte)

/-- Stage P6 after an accepted frame of length `L` with record `r`: on to the next frame, or the end of the PARSE, trailing
bytes dropped (R128, R129). -/
def State.acceptRecord (s : State) (L : Nat) (r : FrameRecord) : State :=
  if s.anotherFollows L then { s with pos := s.pos + L, parse := some (s.records ++ [r]) }
  else { s with parse := some (s.records ++ [r]) }.endParse none

/-- Stages P3 to P6 for one frame (R125 to R129): latch the fields, recompute the checksum over everything but the last two
bytes and compare all 16 bits, hand off to the dispatcher (`arm`), append the record, look for another frame. -/
def State.receive (s : State) (t o : Byte) (p : List Byte) (ck : U16) (arm : State → State × DispatchOutcome) : Result :=
  let c := checksum s.reflectIn (headBytes t o p)
  let s1 := (s.latchFrame t o p ck).setCrc c
  if c = ck then
    let (s2, out) := arm s1
    .next (s2.acceptRecord (p.length + Config.overhead) { msgType := t, optionBits := o, payload := p, outcome := out })
  else .next (s1.takeError .invalidChecksum)

/-- A frame row of the table: a frame whose payload fits the length field and whose msgType the catalog resolves to the
row's name `n` (R73, R75; log 14). -/
def State.receiveAs (s : State) (n : MsgName) (t o : Byte) (p : List Byte) (ck : U16)
    (arm : State → State × DispatchOutcome) : Result :=
  if payloadFits p ∧ s.catalog.name t = n then s.receive t o p ck arm else .refused .notAForm

end Sys2Proof.Machine
end

