-- ==== Sys2Proof/Machine/CatalogOps.lean ====
section
/-! DEFINITION. The operations of the Message Catalog and the Dispatcher (44_dispatch.md). -/

namespace Sys2Proof.Machine

/-- CATALOG.NAME (R181). -/
def execCatalogName (c : Byte) (s : State) : Result := .next (s.returns (.name (s.catalog.name c)))

/-- CATALOG.CODE (R183); it is not defined for the sentinel. -/
def execCatalogCode (n : MsgName) (s : State) : Result :=
  if n = .undocumented then .refused .notAForm else .next (s.returns (.code (s.catalog.code n)))

/-- DISPATCH (R186) as an operation of its own. -/
def execDispatch (t o : Byte) (p : List Byte) (s : State) : Result :=
  .next ((s.dispatch t o p).1.returns (.dispatched (s.dispatch t o p).2))

end Sys2Proof.Machine
end

