-- ==== Sys2Proof/Machine/ChecksumOps.lean ====
section
/-! DEFINITION. The operations of the Checksum Engine (40_crc.md): "No error cases". -/

namespace Sys2Proof.Machine

/-- REFLECT8 (R100). -/
def execReflect8 (b : Byte) (s : State) : Result := .next (s.returns (.byte (reflect8 b)))

/-- CRC.TABLE (R101). -/
def execCrcTable (i : Byte) (s : State) : Result := .next (s.returns (.word (crcTable i)))

/-- CRC.SEED (R103): `CRC <- 0xFFFF`. -/
def execCrcSeed (s : State) : Result := .next ((s.setCrc Config.crcSeed).returns (.word Config.crcSeed))

/-- CRC.UPDATE (R104), which writes the running value (R23). -/
def execCrcUpdate (c : U16) (b : Byte) (s : State) : Result :=
  .next ((s.setCrc (crcUpdate s.reflectIn c b)).returns (.word (crcUpdate s.reflectIn c b)))

/-- CHECKSUM (R105). -/
def execChecksum (d : List Byte) (s : State) : Result :=
  .next ((s.setCrc (checksum s.reflectIn d)).returns (.word (checksum s.reflectIn d)))

end Sys2Proof.Machine
end

