-- ==== Sys2Proof/Machine/Codec.lean ====
section
/-! DEFINITION. The Frame Codec's two operations: PARSE (41_parse.md) and COMPOSE (42_compose.md). -/

namespace Sys2Proof.Machine

/-- A chunk is within `RX_MAX` (R24, U10). -/
def State.chunkFits (s : State) (chunk : List Byte) : Bool :=
  match s.rxMax with
  | none => true
  | some m => decide (chunk.length ≤ m)

/-- PARSE (R120, R121): an empty chunk returns no frames and no error at once; any other chunk becomes `RXB` with the cursor
at 0, and each pass of R130's loop is one later step (log 2). Inside a PARSE there is no step for it (R264, U7); a chunk
above a fixed `RX_MAX` is refused (U10). -/
def execParse (chunk : List Byte) (s : State) : Result :=
  if s.parse.isSome then .fault .parseInProgress
  else if !s.chunkFits chunk then .refused .chunkTooLong
  else if chunk.isEmpty then .next (s.returns (.parsed { frames := [], error := none }))
  else .next (s.startParse chunk)

/-- COMPOSE (R150 to R154). -/
def execCompose (t o : Byte) (p : List Byte) (s : State) : Result :=
  .next (s.compose { msgType := t, optionBits := o, payload := p })

end Sys2Proof.Machine
end

