-- ==== Sys2Proof/Machine/Control.lean ====
section
/-! DEFINITION. Reset and configuration (70_reset_and_hazards.md R260, R263). -/

namespace Sys2Proof.Machine

/-- The latches after RESET: unspecified, free values (R260, U6; log 6). -/
def freeLatches (k : Nat) : Latches :=
  { crc := Config.freeWord k, hLen := Config.freeByte k, hType := Config.freeByte (k + 1),
    hOpt := Config.freeByte (k + 2), hPay := Config.freeBytes k, hCk := Config.freeWord (k + 1) }

/-- RESET (R33, R260, R261): `CFG.REFLECT_IN <- 1`, `RXB` and `TXB` empty, the operation in progress abandoned without a
result, the latches and the cursor unspecified; the constant tables and the environment's queues stay. Whether what was
queued runs afterwards is the environment's choice (R261, N9): here it stays in `requests` and later steps start it, by
DESIGN CHOICE (log 26). -/
def execReset (s : State) : Result :=
  .next
    { s with
      reflectIn := true, latches := freeLatches s.freeIndex, pos := Config.freeCursor s.freeIndex, rxb := [], txb := [],
      parse := none, freeIndex := s.freeIndex + 3 }

/-- CFG.WRITE (R263): only when no PARSE is in progress (U8); the other operations are one step each, so none of them can
be in progress between steps. -/
def execCfgWrite (v : Bool) (s : State) : Result :=
  if s.parse.isSome then .refused .transactionInProgress else .next { s with reflectIn := v }

end Sys2Proof.Machine
end

