-- ==== Sys2Proof/Machine/Messages.lean ====
section
/-! DEFINITION. The message rows of the opcode table: the meaning of receiving each frame (stages P3 to P6 of PARSE with the
row's arm of the dispatcher). -/

namespace Sys2Proof.Machine

/-- FRAME (R70): the generic frame, dispatched by its msgType whatever that is (R186). -/
def execFrame (t o : Byte) (p : List Byte) (ck : U16) (s : State) : Result :=
  if payloadFits p then s.receive t o p ck fun u => u.dispatch t o p else .refused .notAForm

/-- setRTC (R201). -/
def execSetRTC (o : Byte) (p : List Byte) (ck : U16) (s : State) : Result :=
  s.receiveAs .setRTC Config.codeSetRTC o p ck fun u => u.runHandler .setRTC (setRTCContract p) o p

/-- setLED (R203). -/
def execSetLED (t o : Byte) (p : List Byte) (ck : U16) (s : State) : Result :=
  s.receiveAs .setLED t o p ck fun u => u.runHandler .setLED (setLEDContract o) o p

/-- setVibrate (R204). -/
def execSetVibrate (t o : Byte) (p : List Byte) (ck : U16) (s : State) : Result :=
  s.receiveAs .setVibrate t o p ck fun u => u.runHandler .setVibrate (setVibrateContract p) o p

/-- enableButton (R205). -/
def execEnableButton (t o : Byte) (p : List Byte) (ck : U16) (s : State) : Result :=
  s.receiveAs .enableButton t o p ck fun u => u.runHandler .enableButton (enableButtonContract p) o p

/-- disableButton (R206). -/
def execDisableButton (t o : Byte) (p : List Byte) (ck : U16) (s : State) : Result :=
  s.receiveAs .disableButton t o p ck fun u => u.runHandler .disableButton (disableButtonContract p) o p

/-- writeLCD (R207). -/
def execWriteLCD (t o : Byte) (p : List Byte) (ck : U16) (s : State) : Result :=
  s.receiveAs .writeLCD t o p ck fun u => u.runHandler .writeLCD (writeLCDContract o p) o p

/-- updateLCD (R208). -/
def execUpdateLCD (t o : Byte) (p : List Byte) (ck : U16) (s : State) : Result :=
  s.receiveAs .updateLCD t o p ck fun u => u.runHandler .updateLCD (updateLCDContract o) o p

/-- getDeviceType (R209): its handler asks for one COMPOSE during the dispatch. -/
def execGetDeviceType (t o : Byte) (p : List Byte) (ck : U16) (s : State) : Result :=
  s.receiveAs .getDeviceType t o p ck fun u => u.runHandler .getDeviceType getDeviceTypeContract o p

/-- nvalSet (R212, R188): known but unsupported, `NotImplemented` with its own name. -/
def execNvalSet (t o : Byte) (p : List Byte) (ck : U16) (s : State) : Result :=
  s.receiveAs .nvalSet t o p ck fun u => (u, .notImplemented .nvalSet)

/-- buttonEvent (R210, R188): an outbound type; received, it is known but unsupported. -/
def execButtonEvent (t o : Byte) (p : List Byte) (ck : U16) (s : State) : Result :=
  s.receiveAs .buttonEvent t o p ck fun u => (u, .notImplemented .buttonEvent)

/-- deviceTypeResponse (R210, R188): an outbound type; received, it is known but unsupported. -/
def execDeviceTypeResponse (t o : Byte) (p : List Byte) (ck : U16) (s : State) : Result :=
  s.receiveAs .deviceTypeResponse t o p ck fun u => (u, .notImplemented .deviceTypeResponse)

/-- undocumented (R78, R184, R186): a code outside the catalog; the frame is well framed and no handler runs. -/
def execUndocumented (t o : Byte) (p : List Byte) (ck : U16) (s : State) : Result :=
  s.receiveAs .undocumented t o p ck fun u => (u, .notImplemented .undocumented)

end Sys2Proof.Machine
end

