-- ==== Sys2Proof/Machine/OptionOps.lean ====
section
/-! DEFINITION. The operations of the Option Unpacker (43_options.md): total functions of their operands. -/

namespace Sys2Proof.Machine

/-- OPT.UNPACK (R160). -/
def execOptUnpack (o : Byte) (s : State) : Result := .next (s.returns (.bits (optUnpack o)))

/-- OPT.PACK (R160). -/
def execOptPack (b : OptionBits) (s : State) : Result := .next (s.returns (.byte (optPack b)))

/-- OPT.BIT (R161). -/
def execOptBit (o : Byte) (i : BitVec 3) (s : State) : Result := .next (s.returns (.bit (optBit o i.toNat)))

/-- OPT.FIELD (R162), for `1 <= w` and `lo + w <= 8`; any other pair is no form of it. -/
def execOptField (o : Byte) (lo w : Nat) (s : State) : Result :=
  if 1 ≤ w ∧ lo + w ≤ 8 then .next (s.returns (.number (optField o lo w))) else .refused .notAForm

/-- LED_STATE (R163). -/
def execLedState (o : Byte) (s : State) : Result := .next (s.returns (.bit (ledState o)))

/-- LCD_MODE (R164). -/
def execLcdMode (o : Byte) (s : State) : Result := .next (s.returns (.number (lcdMode o)))

/-- ONE_ROW (R165). -/
def execOneRow (o : Byte) (s : State) : Result := .next (s.returns (.bit (oneRow o)))

/-- TWO_ROWS (R166). -/
def execTwoRows (o : Byte) (n : Nat) (s : State) : Result := .next (s.returns (.bit (twoRows o n)))

/-- UPD_MODE (R167). -/
def execUpdMode (o : Byte) (s : State) : Result := .next (s.returns (.number (updMode o)))

end Sys2Proof.Machine
end

