-- ==== Sys2Proof/Machine/Dispatch.lean ====
section
/-! DEFINITION. One arm per constructor of Instr, each one direct call of its meaning. -/

namespace Sys2Proof.Machine

def exec (i : Instr) (s : State) : Host.Outcome State Fault Refusal :=
  match i with
  | .frame t o p ck => Sys2Proof.Machine.execFrame t o p ck s
  | .setRTC o p ck => Sys2Proof.Machine.execSetRTC o p ck s
  | .setLED t o p ck => Sys2Proof.Machine.execSetLED t o p ck s
  | .setVibrate t o p ck => Sys2Proof.Machine.execSetVibrate t o p ck s
  | .enableButton t o p ck => Sys2Proof.Machine.execEnableButton t o p ck s
  | .disableButton t o p ck => Sys2Proof.Machine.execDisableButton t o p ck s
  | .writeLCD t o p ck => Sys2Proof.Machine.execWriteLCD t o p ck s
  | .updateLCD t o p ck => Sys2Proof.Machine.execUpdateLCD t o p ck s
  | .getDeviceType t o p ck => Sys2Proof.Machine.execGetDeviceType t o p ck s
  | .nvalSet t o p ck => Sys2Proof.Machine.execNvalSet t o p ck s
  | .buttonEvent t o p ck => Sys2Proof.Machine.execButtonEvent t o p ck s
  | .deviceTypeResponse t o p ck => Sys2Proof.Machine.execDeviceTypeResponse t o p ck s
  | .undocumented t o p ck => Sys2Proof.Machine.execUndocumented t o p ck s
  | .reflect8 b => Sys2Proof.Machine.execReflect8 b s
  | .crcTable k => Sys2Proof.Machine.execCrcTable k s
  | .crcSeed => Sys2Proof.Machine.execCrcSeed s
  | .crcUpdate c b => Sys2Proof.Machine.execCrcUpdate c b s
  | .checksum d => Sys2Proof.Machine.execChecksum d s
  | .parse chunk => Sys2Proof.Machine.execParse chunk s
  | .compose t o p => Sys2Proof.Machine.execCompose t o p s
  | .optUnpack o => Sys2Proof.Machine.execOptUnpack o s
  | .optPack bits => Sys2Proof.Machine.execOptPack bits s
  | .optBit o k => Sys2Proof.Machine.execOptBit o k s
  | .optField o lo w => Sys2Proof.Machine.execOptField o lo w s
  | .ledState o => Sys2Proof.Machine.execLedState o s
  | .lcdMode o => Sys2Proof.Machine.execLcdMode o s
  | .oneRow o => Sys2Proof.Machine.execOneRow o s
  | .twoRows o n => Sys2Proof.Machine.execTwoRows o n s
  | .updMode o => Sys2Proof.Machine.execUpdMode o s
  | .catalogName c => Sys2Proof.Machine.execCatalogName c s
  | .catalogCode name => Sys2Proof.Machine.execCatalogCode name s
  | .dispatch t o p => Sys2Proof.Machine.execDispatch t o p s
  | .reset => Sys2Proof.Machine.execReset s
  | .cfgWrite v => Sys2Proof.Machine.execCfgWrite v s

end Sys2Proof.Machine
end

