-- ==== Sys2Proof/Machine/Fetch.lean ====
section
/-! DEFINITION. Fetching the frame at the cursor (R27, R50: frame space is `RXB` seen from `POS`), and what a failed fetch
does: the framing errors of stages P1 and P2. -/

namespace Sys2Proof.Machine

/-- The bytes from the frame's byte 0 to the end of the buffer (R123: there are `m` of them). -/
def State.rest (s : State) : List Byte := s.rxb.drop s.pos

/-- The frame at the cursor, after the start and length checks (R122 to R125). -/
def State.fetch (s : State) : Except DecodeError (Instr × List Byte) := decode s.catalog s.rest

/-- Stage P2a writes `H_LEN` before it checks the value (R123). -/
def State.latchLength (s : State) : State := s.setLen (byteAt s.rest 1)

/-- The framing error that a failed fetch reports (R122 to R124, R231, R232). A cursor outside the buffer is ruled out by
R27. -/
def State.rejectFrame (s : State) (e : DecodeError) : Result :=
  match e with
  | .noBytes => .fault .cursorOutsideBuffer
  | .badStart => .next (s.takeError .invalidMessage)
  | .lengthMissing => .next (s.takeError .invalidMessageLengthMismatch)
  | .lengthBelowMinimum => .next (s.latchLength.takeError .invalidMessageLengthMismatch)
  | .shorterThanDeclared => .next (s.latchLength.takeError .invalidMessageLengthMismatch)

end Sys2Proof.Machine
end

