-- ==== Sys2Proof/Machine/Step.lean ====
section
/-! DEFINITION. One step of the machine, and where a frame is placed to be fetched. -/

namespace Sys2Proof.Machine

/-- One step. An explicit reset request is served first (R260; log 7). While a PARSE is in progress the step is one pass of
R130's loop: fetch the frame at the cursor and run it, or report the framing error; requests wait (R264). Otherwise the
operation that waits longest starts (R275), and with nothing waiting the block waits (R33). -/
def step (s : State) : Host.Outcome State Fault Refusal :=
  if s.resetLine then exec .reset { s with resetLine := false }
  else
    match s.parse with
    | some _ =>
      match s.fetch with
      | .ok (i, _) => exec i s
      | .error e => s.rejectFrame e
    | none =>
      match s.requests with
      | [] => .next s
      | i :: rest => exec i { s with requests := rest }

/-- `s` with a table word's frame placed where the next step fetches: as the chunk of a PARSE that has just started
(log 17). -/
def State.withFetchWord (s : State) (nbits w : Nat) : State :=
  { s with rxb := tableBytes nbits w, pos := 0, parse := some [], resetLine := false }

end Sys2Proof.Machine
end

