-- ==== Sys2Proof/Machine/ParseLoop.lean ====
section
/-! DEFINITION. PARSE as the normative loop of 41_parse.md rule R130, written over the whole chunk: the reference that the
machine's passes are held to. It lists the triples handed to the dispatcher; dispatching decides nothing in the loop
(R127). -/

namespace Sys2Proof.Machine

/-- The frames delivered so far, as the triples of R127, and the framing error, if any. -/
abbrev LoopResult := List (Byte × Byte × List Byte) × Option ProtocolError

/-- R130's `loop`, at most `fuel` passes (R133: "a model can take `|RXB|` as fuel"). -/
def parseLoop (reflectIn : Bool) (B : List Byte) : Nat → Nat → List (Byte × Byte × List Byte) → LoopResult
  | 0, _, frames => (frames, none)
  | fuel + 1, pos, frames =>
    let m := B.length - pos
    let L := (byteAt B (pos + 1)).toNat
    let F := slice B pos (pos + L)
    let frames' := frames ++ [(byteAt F 2, byteAt F 3, slice F 4 (L - 2))]
    if byteAt B pos ≠ 0x01 then (frames, some .invalidMessage)
    else if m < 2 then (frames, some .invalidMessageLengthMismatch)
    else if L < 6 then (frames, some .invalidMessageLengthMismatch)
    else if m < L then (frames, some .invalidMessageLengthMismatch)
    else if checksum reflectIn (slice F 0 (L - 2)) ≠ u16le (byteAt F (L - 2)) (byteAt F (L - 1)) then
      (frames, some .invalidChecksum)
    else if m > L ∧ byteAt B (pos + L) = 0x01 then parseLoop reflectIn B fuel (pos + L) frames'
    else (frames', none)

/-- `PARSE(RXB)` by R130: an empty chunk gives no frames and no error. -/
def parseReference (reflectIn : Bool) (B : List Byte) : LoopResult :=
  if B.length = 0 then ([], none) else parseLoop reflectIn B B.length 0 []

end Sys2Proof.Machine
end

