-- ==== Sys2Proof/Safety.lean ====
section
/-! DEFINITION. What claims are stated in terms of: the invariant, a safe step, what an observer of the block sees, and what
the acceptance of a frame is. -/

namespace Sys2Proof.Machine

/-- A frame of the format (R52, R153): start byte, `length == total frame size`, 6 to 255 bytes. -/
def framed (f : List Byte) : Prop :=
  6 ≤ f.length ∧ f.length ≤ 255 ∧ f[0]? = some 0x01 ∧ f[1]? = some (BitVec.ofNat 8 f.length)

/-- The invariant of the machine. -/
structure MachineInv (s : State) : Prop where
  /-- The catalog is one that R182 admits. -/
  catalogAdmissible : s.catalog.admissible = true
  /-- `RXB` holds nothing when no PARSE is in progress (R24). -/
  idleEmpty : s.parse = none → s.rxb = []
  /-- `0 <= POS < |RXB|` whenever it is read (R27). -/
  cursorInside : s.parse ≠ none → s.pos < s.rxb.length
  /-- `POS` is 0 or at a start byte: a bad start byte can happen only at `POS = 0` (R122, R128). -/
  cursorAtStart : s.parse ≠ none → s.pos ≠ 0 → s.rxb[s.pos]? = some 0x01
  /-- Every frame on the write queue is a frame of the format (R153). -/
  queueFramed : ∀ f ∈ s.txQueue, framed f

/-- A safe step: the machine does not fault. -/
def SafeStep (s : State) : Prop := ∀ r, step s ≠ .fault r

/-- The state with everything blanked that no later operation reads: the latches, `TXB`, and the cursor between
transactions (R20, U6). -/
def State.observed (s : State) : State :=
  { s with latches := Latches.reset, txb := [], pos := if s.parse.isSome then s.pos else 0 }

/-- Two outcomes that an observer cannot tell apart. -/
def sameOutcome : Host.Outcome State Fault Refusal → Host.Outcome State Fault Refusal → Prop
  | .next a, .next b => a.observed = b.observed
  | .fault x, .fault y => x = y
  | .refused x, .refused y => x = y
  | _, _ => False

/-- A chunk is within `RX_MAX`, if that is fixed (R9, R24). -/
def chunkAllowed (s : State) (chunk : List Byte) : Prop := ∀ m, s.rxMax = some m → chunk.length ≤ m

/-- The received checksum is the one recomputed over start, length, msgType, optionBits and payload (R72, R126). -/
def goodChecksum (s : State) (t o : Byte) (p : List Byte) (ck : U16) : Prop :=
  ck = checksum s.reflectIn ([0x01, BitVec.ofNat 8 (p.length + 6), t, o] ++ p)

/-- The results that a list of COMPOSE requests returns. -/
def composeResults (reflectIn : Bool) (asks : List ComposeRequest) : List OpResult :=
  asks.map fun r => .composed (composeValue reflectIn r)

/-- No request of the list is refused: every payload fits a frame (R152). -/
def AllFit (asks : List ComposeRequest) : Prop := ∀ r ∈ asks, r.payload.length ≤ 249

/-- The frames that a list of COMPOSE requests puts on the write queue. -/
def composedFrames (reflectIn : Bool) (asks : List ComposeRequest) : List (List Byte) :=
  asks.filterMap fun r =>
    match composeValue reflectIn r with
    | .bytes f => some f
    | .payloadTooLong => none

/-- What the handler of `n` asks COMPOSE for when it runs next: `getDeviceType`'s exactly one request, which the
environment's next entry names or leaves open; any other handler's, that entry's requests (R4, R209, R210). -/
def handlerWillAsk (s : State) (n : MsgName) (asks : List ComposeRequest) : Prop :=
  if n = .getDeviceType then
    ∃ r, asks = [r] ∧ ∀ r' more later, s.handlerAsks = (r' :: more) :: later → r = r'
  else asks = s.handlerAsks.headD []

/-- The catalog, the bound, the configuration bit, the reset request and the waiting operations are unchanged. -/
structure SameSetting (s u : State) : Prop where
  catalog : u.catalog = s.catalog
  rxMax : u.rxMax = s.rxMax
  reflectIn : u.reflectIn = s.reflectIn
  resetLine : u.resetLine = s.resetLine
  requests : u.requests = s.requests

/-- A following frame is recognised by its start byte alone: `m > L` and `RXB[POS+L] = 0x01` (R79, R128). -/
def followedByFrame (s : State) (L : Nat) : Prop :=
  s.rxb.length - s.pos > L ∧ s.rxb[s.pos + L]? = some 0x01

/-- What stages P3, P5 and P6 leave for an accepted frame with dispatch outcome `out`, whose handler asked for the COMPOSE
operations `asks` (R125, R127 to R129): the latches, the record, the cursor or the returned result, the write queue, and
everything else unchanged. `CRC` is not constrained (U6). -/
structure Accepted (s : State) (t o : Byte) (p : List Byte) (ck : U16) (out : DispatchOutcome)
    (asks : List ComposeRequest) (u : State) : Prop where
  setting : SameSetting s u
  hLen : u.latches.hLen = BitVec.ofNat 8 (p.length + 6)
  hType : u.latches.hType = t
  hOpt : u.latches.hOpt = o
  hPay : u.latches.hPay = p
  hCk : u.latches.hCk = ck
  txQueue : u.txQueue = s.txQueue ++ composedFrames s.reflectIn asks
  txb : u.txb = (composedFrames s.reflectIn asks).getLastD s.txb
  onward : followedByFrame s (p.length + 6) →
    u.pos = s.pos + (p.length + 6) ∧ u.rxb = s.rxb ∧
      u.parse = some (s.records ++ [{ msgType := t, optionBits := o, payload := p, outcome := out }]) ∧
      u.results = s.results ++ composeResults s.reflectIn asks
  finished : ¬ followedByFrame s (p.length + 6) →
    u.pos = s.pos ∧ u.rxb = [] ∧ u.parse = none ∧
      u.results = s.results ++ composeResults s.reflectIn asks ++
        [.parsed
          { frames := s.records ++ [{ msgType := t, optionBits := o, payload := p, outcome := out }], error := none }]

/-- An accepted frame that a handler took (R186, R187): the handler of `n` got the option byte and the payload unchanged,
its contract decoded `view`, and its outcome is the contract's `result`, except that in place of `Ok` it is open if a
COMPOSE it asked for was refused (R239). -/
structure DeliveredTo (s : State) (n : MsgName) (t o : Byte) (p : List Byte) (ck : U16) (view : Option HandlerView)
    (result : HandlerOutcome) (asks : List ComposeRequest) (u : State) : Prop where
  accepted : ∃ h, Accepted s t o p ck (.handled n h) asks u ∧ (result ≠ .ok ∨ AllFit asks → h = result)
  handlerCalls : u.handlerCalls = s.handlerCalls ++ [{ name := n, optionBits := o, payload := p, view := view }]
  handlerAsks : u.handlerAsks = s.handlerAsks.tail

/-- An accepted frame that reached the default arm (R186): no handler ran and nothing was composed. -/
structure DeliveredToNobody (s : State) (n : MsgName) (t o : Byte) (p : List Byte) (ck : U16) (u : State) : Prop where
  accepted : Accepted s t o p ck (.notImplemented n) [] u
  handlerCalls : u.handlerCalls = s.handlerCalls
  handlerAsks : u.handlerAsks = s.handlerAsks
  freeIndex : u.freeIndex = s.freeIndex

/-- A PARSE ended with a framing error (R236): the earlier frames stay in the result, the rest of the buffer is dropped,
and nothing outside the latches changes. -/
structure EndedWith (s : State) (e : ProtocolError) (u : State) : Prop where
  setting : SameSetting s u
  parse : u.parse = none
  rxb : u.rxb = []
  results : u.results = s.results ++ [.parsed { frames := s.records, error := some e }]
  pos : u.pos = s.pos
  txb : u.txb = s.txb
  txQueue : u.txQueue = s.txQueue
  handlerCalls : u.handlerCalls = s.handlerCalls
  handlerAsks : u.handlerAsks = s.handlerAsks
  freeIndex : u.freeIndex = s.freeIndex

end Sys2Proof.Machine
end

