-- ==== Sys2Proof/Certificates/Slice0/Obligations.lean ====
section
/-! DEFINITION. The statements for the provers. Each docstring names the rule of spec/ it formalises, or says that it rests
on a choice of the model and names the log entry. -/

open Sys2Proof Sys2Proof.Machine

/-! ### Reset and configuration -/

/-- R33: after reset `CFG.REFLECT_IN` is 1, `RXB` and `TXB` are empty and nothing is in progress. -/
def Obligations.ResetStateHoldsTheSpecValues : Prop :=
  State.reset.reflectIn = true ∧ State.reset.rxb = [] ∧ State.reset.txb = [] ∧ State.reset.parse = none

/-- R260, R261 (the spec's own inference) and R33, with the boundary fields of log 1, 7, 8 and 19: RESET, also in the middle of a PARSE, completes; it sets the configuration bit, abandons the operation in
progress without a result, and leaves the tables and the environment's queues. -/
def Obligations.ResetAbandonsAndRestores : Prop :=
  ∀ s : State, ∃ u, exec .reset s = .next u ∧ u.reflectIn = true ∧ u.parse = none ∧ u.rxb = [] ∧ u.txb = [] ∧
    u.results = s.results ∧ u.txQueue = s.txQueue ∧ u.requests = s.requests ∧ u.handlerCalls = s.handlerCalls ∧
    u.handlerAsks = s.handlerAsks ∧ u.catalog = s.catalog ∧ u.rxMax = s.rxMax ∧ u.resetLine = s.resetLine

/-- R263: between transactions CFG.WRITE writes the bit, and every CHECKSUM that starts after it uses the new value. -/
def Obligations.CfgWriteSetsTheBitForLaterChecksums : Prop :=
  ∀ (s : State) (v : Bool) (d : List Byte), s.parse = none →
    exec (.cfgWrite v) s = .next { s with reflectIn := v } ∧
      exec (.checksum d) { s with reflectIn := v } =
        .next
          { s with
            reflectIn := v, latches := { s.latches with crc := checksum v d },
            results := s.results ++ [.word (checksum v d)] }

/-- The treatment U8 of 93_implementation_defined.md (log 13): CFG.WRITE inside a PARSE is not an admitted step. -/
def Obligations.CfgWriteInsideParseIsRefused : Prop :=
  ∀ (s : State) (v : Bool), s.parse ≠ none → exec (.cfgWrite v) s = .refused .transactionInProgress

/-- R63, R21, R29, R22: no instruction changes the catalog, and only CFG.WRITE and RESET change the configuration bit; the
bound, the reset request and the waiting operations are no instruction's to change either. -/
def Obligations.OnlyCfgWriteAndResetChangeTheConfiguration : Prop :=
  ∀ (i : Instr) (s u : State), exec i s = .next u →
    u.catalog = s.catalog ∧ u.rxMax = s.rxMax ∧ u.resetLine = s.resetLine ∧ u.requests = s.requests ∧
      ((∀ v, i ≠ .cfgWrite v) → i ≠ .reset → u.reflectIn = s.reflectIn)

/-! ### Checksum Engine -/

/-- R100: `r[i] = b[7-i]`; its own inverse; palindromic bytes are fixed points. Nothing but the result list changes. -/
def Obligations.Reflect8ReversesTheBits : Prop :=
  ∀ (s : State) (b : Byte), ∃ r : Byte,
    exec (.reflect8 b) s = .next { s with results := s.results ++ [.byte r] } ∧
      (∀ i, i < 8 → r.getLsbD i = b.getLsbD (7 - i)) ∧
      exec (.reflect8 r) s = .next { s with results := s.results ++ [.byte b] } ∧
      ((∀ i, i < 8 → b.getLsbD i = b.getLsbD (7 - i)) → r = b)

/-- R101: `T[i]` is eight shifts of `i << 8`, on numbers below 2^16, whatever the state; the corner cases. -/
def Obligations.CrcTableEntryIsEightShifts : Prop :=
  ∀ (s : State) (i : Byte), ∃ w : U16,
    exec (.crcTable i) s = .next { s with results := s.results ++ [.word w] } ∧
      w.toNat =
        (fun r : Nat => if r.testBit 15 then ((r * 2) % 65536) ^^^ 0x1021 else (r * 2) % 65536)^[8] (i.toNat * 256) ∧
      (i = 0 → w = 0) ∧ (i = 1 → w = 0x1021) ∧ (i = 0x80 → w = 0x9188) ∧ (i = 0xFF → w = 0x1EF0)

/-- R103: CRC.SEED writes `0xFFFF`, and every CHECKSUM starts from that value. -/
def Obligations.CrcSeedWritesAllOnes : Prop :=
  ∀ s : State,
    exec .crcSeed s =
        .next { s with latches := { s.latches with crc := 0xFFFF }, results := s.results ++ [.word 0xFFFF] } ∧
      ∀ d : List Byte, checksum s.reflectIn d = crcContinue s.reflectIn 0xFFFF d

/-- R104: the update equation; nothing but `CRC` and the result list changes. -/
def Obligations.CrcUpdateLooksUpHighByteXorInput : Prop :=
  ∀ (s : State) (c : U16) (b : Byte), ∃ w : U16,
    exec (.crcUpdate c b) s =
        .next { s with latches := { s.latches with crc := w }, results := s.results ++ [.word w] } ∧
      w = crcTable (BitVec.ofNat 8 (c.toNat / 256) ^^^ (if s.reflectIn then reflect8 b else b)) ^^^
        BitVec.ofNat 16 ((c.toNat % 256) * 256) ∧
      (c = 0 → b = 0 → w = 0) ∧ (c = 0xFFFF → b = 0 → w = 0xE1F0) ∧ (c = 0xFFFF → b = 0xFF → w = 0xFF00)

/-- What the spec derives from R101 and R104 (its own inference): `T` and the update are linear over XOR. -/
def Obligations.CrcTableAndUpdateAreLinear : Prop :=
  (∀ i j : Byte, crcTable (i ^^^ j) = crcTable i ^^^ crcTable j) ∧
    ∀ (reflectIn : Bool) (c c' : U16) (b b' : Byte),
      crcUpdate reflectIn (c ^^^ c') (b ^^^ b') = crcUpdate reflectIn c b ^^^ crcUpdate reflectIn c' b'

/-- R107: the bit-serial form computes the same function. -/
def Obligations.CrcUpdateEqualsItsSerialForm : Prop :=
  ∀ (reflectIn : Bool) (c : U16) (b : Byte), crcUpdate reflectIn c b = crcUpdateSerial reflectIn c b

/-- R105: seed, then one update per byte in increasing offset order, nothing after; for every byte sequence; the order of
the bytes matters. -/
def Obligations.ChecksumUpdatesWithEveryByteInOrder : Prop :=
  ∀ (s : State) (d : List Byte) (b : Byte),
    exec (.checksum d) s =
        .next
          { s with
            latches := { s.latches with crc := checksum s.reflectIn d },
            results := s.results ++ [.word (checksum s.reflectIn d)] } ∧
      checksum s.reflectIn [] = 0xFFFF ∧
      checksum s.reflectIn (d ++ [b]) = crcUpdate s.reflectIn (checksum s.reflectIn d) b ∧
      checksum s.reflectIn [0x00, 0x01] ≠ checksum s.reflectIn [0x01, 0x00]

/-- What the spec derives in R106: continuation; the residue without reflection, high byte first; and no constant over a
frame with its checksum in the wire's order, under either setting. -/
def Obligations.ChecksumContinuesAndLeavesNoResidue : Prop :=
  (∀ (reflectIn : Bool) (A B : List Byte),
      checksum reflectIn (A ++ B) = crcContinue reflectIn (checksum reflectIn A) B) ∧
    (∀ D : List Byte, crcContinue false (checksum false D) [hi8 (checksum false D), lo8 (checksum false D)] = 0) ∧
    ∀ reflectIn : Bool, ∃ (t o t' o' : Byte) (p p' : List Byte) (D D' : List Byte),
      p.length ≤ 249 ∧ p'.length ≤ 249 ∧
        D = [0x01, BitVec.ofNat 8 (p.length + 6), t, o] ++ p ∧
        D' = [0x01, BitVec.ofNat 8 (p'.length + 6), t', o'] ++ p' ∧
        checksum reflectIn (D ++ [lo8 (checksum reflectIn D), hi8 (checksum reflectIn D)]) ≠
          checksum reflectIn (D' ++ [lo8 (checksum reflectIn D'), hi8 (checksum reflectIn D')])

/-- R270: on palindromic bytes alone the two reflection settings agree. -/
def Obligations.ReflectionSettingsAgreeOnPalindromes : Prop :=
  ∀ D : List Byte, (∀ b ∈ D, reflect8 b = b) → checksum true D = checksum false D

/-! ### COMPOSE -/

/-- R150, R153: the frame, its checksum low byte first, handed on as one unit; nothing else changes. -/
def Obligations.ComposeBuildsTheFrame : Prop :=
  ∀ (s : State) (t o : Byte) (p : List Byte), p.length ≤ 249 →
    ∃ (c : U16) (f : List Byte),
      exec (.compose t o p) s =
          .next
            { s with
              latches := { s.latches with crc := c }, txb := f, txQueue := s.txQueue ++ [f],
              results := s.results ++ [.composed (.bytes f)] } ∧
        c = checksum s.reflectIn ([0x01, BitVec.ofNat 8 (p.length + 6), t, o] ++ p) ∧
        f = [0x01, BitVec.ofNat 8 (p.length + 6), t, o] ++ p ++
          [BitVec.ofNat 8 (c.toNat % 256), BitVec.ofNat 8 (c.toNat / 256)] ∧
        f.length = p.length + 6 ∧ framed f

/-- R152: more than 249 payload bytes are refused with `PayloadTooLong`; nothing is emitted and nothing changes. -/
def Obligations.ComposeRefusesLongPayloads : Prop :=
  ∀ (s : State) (t o : Byte) (p : List Byte), 249 < p.length →
    exec (.compose t o p) s = .next { s with results := s.results ++ [.composed .payloadTooLong] }

/-! ### PARSE: start, framing errors -/

/-- R121: an empty chunk gives no frames and no error and dispatches nothing; any other chunk is read from `POS = 0`. -/
def Obligations.ParseStartsAtOffsetZero : Prop :=
  ∀ (s : State) (chunk : List Byte), s.parse = none → chunkAllowed s chunk →
    exec (.parse chunk) s =
      .next
        (if chunk = [] then { s with results := s.results ++ [.parsed { frames := [], error := none }] }
        else { s with rxb := chunk, pos := 0, parse := some [] })

/-- The treatments U7 and U10 (log 12, 13): no second PARSE is started inside a PARSE, and no chunk above a fixed bound. -/
def Obligations.ParseIsNotStartedInsideParseNorAboveTheBound : Prop :=
  ∀ (s : State) (chunk : List Byte),
    (s.parse ≠ none → exec (.parse chunk) s = .fault .parseInProgress) ∧
      (∀ m, s.parse = none → s.rxMax = some m → m < chunk.length →
        exec (.parse chunk) s = .refused .chunkTooLong)

/-- R264, R265: while a PARSE is in progress every waiting operation waits. -/
def Obligations.OperationsWaitWhileAParseRuns : Prop :=
  ∀ s u : State, s.parse ≠ none → s.resetLine = false → step s = .next u → u.requests = s.requests

/-- R122: a bad start byte ends the PARSE with `InvalidMessage`; under the invariant only at `POS = 0`. -/
def Obligations.BadStartByteIsInvalidMessage : Prop :=
  ∀ (s : State) (b : Byte), s.resetLine = false → s.parse ≠ none → s.rxb[s.pos]? = some b → b ≠ 0x01 →
    ∃ u, step s = .next u ∧ EndedWith s .invalidMessage u ∧ u.latches = s.latches ∧ (MachineInv s → s.pos = 0)

/-- R123, R124: a missing length byte, a declared length below 6 and a buffer shorter than the declared length end the PARSE
with `InvalidMessage("length mismatch")`; `H_LEN` is written when there is a length byte. -/
def Obligations.LengthFaultsAreLengthMismatch : Prop :=
  ∀ s : State, s.resetLine = false → s.parse ≠ none → s.rxb[s.pos]? = some 0x01 →
    (s.rxb.length - s.pos < 2 →
      ∃ u, step s = .next u ∧ EndedWith s .invalidMessageLengthMismatch u ∧ u.latches = s.latches) ∧
    (∀ len : Byte, s.rxb[s.pos + 1]? = some len → len.toNat < 6 ∨ s.rxb.length - s.pos < len.toNat →
      ∃ u, step s = .next u ∧ EndedWith s .invalidMessageLengthMismatch u ∧
        u.latches = { s.latches with hLen := len })

/-- R126: a frame of any row whose received checksum differs from the recomputed one in any of the 16 bits ends the PARSE
with `InvalidChecksum` and is not delivered; the header latches hold its fields. -/
def Obligations.WrongChecksumIsInvalidChecksum : Prop :=
  ∀ (s : State) (t o : Byte) (p : List Byte) (ck : U16), p.length ≤ 249 → ¬ goodChecksum s t o p ck →
    ∃ u, EndedWith s .invalidChecksum u ∧ u.latches.hLen = BitVec.ofNat 8 (p.length + 6) ∧ u.latches.hType = t ∧
      u.latches.hOpt = o ∧ u.latches.hPay = p ∧ u.latches.hCk = ck ∧
      exec (.frame t o p ck) s = .next u ∧
      (t = 0x26 → s.catalog.name t = .setRTC → exec (.setRTC o p ck) s = .next u) ∧
      (s.catalog.name t = .setLED → exec (.setLED t o p ck) s = .next u) ∧
      (s.catalog.name t = .setVibrate → exec (.setVibrate t o p ck) s = .next u) ∧
      (s.catalog.name t = .enableButton → exec (.enableButton t o p ck) s = .next u) ∧
      (s.catalog.name t = .disableButton → exec (.disableButton t o p ck) s = .next u) ∧
      (s.catalog.name t = .writeLCD → exec (.writeLCD t o p ck) s = .next u) ∧
      (s.catalog.name t = .updateLCD → exec (.updateLCD t o p ck) s = .next u) ∧
      (s.catalog.name t = .getDeviceType → exec (.getDeviceType t o p ck) s = .next u) ∧
      (s.catalog.name t = .nvalSet → exec (.nvalSet t o p ck) s = .next u) ∧
      (s.catalog.name t = .buttonEvent → exec (.buttonEvent t o p ck) s = .next u) ∧
      (s.catalog.name t = .deviceTypeResponse → exec (.deviceTypeResponse t o p ck) s = .next u) ∧
      (s.catalog.name t = .undocumented → exec (.undocumented t o p ck) s = .next u)

/-! ### PARSE: accepted frames -/

/-- R127, R128, R186: a frame with any msgType and the right checksum is dispatched by the catalog's name for it and
accepted; neither outcome ends the buffer. -/
def Obligations.AnyFrameIsDispatchedAndAccepted : Prop :=
  ∀ (s : State) (t o : Byte) (p : List Byte) (ck : U16), p.length ≤ 249 → goodChecksum s t o p ck →
    ∃ u, exec (.frame t o p ck) s = .next u ∧
      (s.catalog.name t ∈ handlers →
        ∃ asks h call, handlerWillAsk s (s.catalog.name t) asks ∧
          Accepted s t o p ck (.handled (s.catalog.name t) h) asks u ∧
          u.handlerCalls = s.handlerCalls ++ [call] ∧ call.name = s.catalog.name t ∧ call.optionBits = o ∧
          call.payload = p ∧ u.handlerAsks = s.handlerAsks.tail) ∧
      (s.catalog.name t ∉ handlers → DeliveredToNobody s (s.catalog.name t) t o p ck u)

/-- R80: the generic frame is the one every labelled row is a case of. -/
def Obligations.EveryRowIsACaseOfTheGenericFrame : Prop :=
  ∀ (s : State) (t o : Byte) (p : List Byte) (ck : U16),
    exec (frameRow s.catalog t o p ck) s = exec (.frame t o p ck) s

/-- The model's choice (log 14): a row whose code the catalog does not resolve to its name, or whose payload no frame can
hold, is no form of it. -/
def Obligations.RowsRefuseForeignCodesAndLongPayloads : Prop :=
  ∀ (s : State) (t o : Byte) (p : List Byte) (ck : U16),
    (249 < p.length → exec (.frame t o p ck) s = .refused .notAForm) ∧
    (249 < p.length ∨ s.catalog.name 0x26 ≠ .setRTC → exec (.setRTC o p ck) s = .refused .notAForm) ∧
    (249 < p.length ∨ s.catalog.name t ≠ .setLED → exec (.setLED t o p ck) s = .refused .notAForm) ∧
    (249 < p.length ∨ s.catalog.name t ≠ .setVibrate → exec (.setVibrate t o p ck) s = .refused .notAForm) ∧
    (249 < p.length ∨ s.catalog.name t ≠ .enableButton → exec (.enableButton t o p ck) s = .refused .notAForm) ∧
    (249 < p.length ∨ s.catalog.name t ≠ .disableButton → exec (.disableButton t o p ck) s = .refused .notAForm) ∧
    (249 < p.length ∨ s.catalog.name t ≠ .writeLCD → exec (.writeLCD t o p ck) s = .refused .notAForm) ∧
    (249 < p.length ∨ s.catalog.name t ≠ .updateLCD → exec (.updateLCD t o p ck) s = .refused .notAForm) ∧
    (249 < p.length ∨ s.catalog.name t ≠ .getDeviceType → exec (.getDeviceType t o p ck) s = .refused .notAForm) ∧
    (249 < p.length ∨ s.catalog.name t ≠ .nvalSet → exec (.nvalSet t o p ck) s = .refused .notAForm) ∧
    (249 < p.length ∨ s.catalog.name t ≠ .buttonEvent → exec (.buttonEvent t o p ck) s = .refused .notAForm) ∧
    (249 < p.length ∨ s.catalog.name t ≠ .deviceTypeResponse →
      exec (.deviceTypeResponse t o p ck) s = .refused .notAForm) ∧
    (249 < p.length ∨ s.catalog.name t ≠ .undocumented → exec (.undocumented t o p ck) s = .refused .notAForm)

/-- R201, R211: the `setRTC` frame is handed to its handler, which decodes the fields of R201, or finds the payload
malformed when it is shorter than 8 bytes or exactly 9. -/
def Obligations.SetRTCFrameIsDecodedAndDelivered : Prop :=
  ∀ (s : State) (o : Byte) (p : List Byte) (ck : U16), p.length ≤ 249 → s.catalog.name 0x26 = .setRTC →
    goodChecksum s 0x26 o p ck →
    ∃ u asks, exec (.setRTC o p ck) s = .next u ∧ handlerWillAsk s .setRTC asks ∧
      (p.length < 8 ∨ p.length = 9 →
        DeliveredTo s .setRTC 0x26 o p ck none (.failed .malformedPayload) asks u) ∧
      (p.length = 8 ∨ 10 ≤ p.length →
        ∃ v : RtcFields, DeliveredTo s .setRTC 0x26 o p ck (some (.setRTC v)) .ok asks u ∧
          v.year.toNat = (p.getD 0 0).toNat * 256 + (p.getD 1 0).toNat ∧ v.day = p.getD 3 0 ∧ v.month = p.getD 4 0 ∧
          v.hour = p.getD 5 0 ∧ v.weekday = p.getD 5 0 ∧ v.minute = p.getD 6 0 ∧ v.second = p.getD 7 0 ∧
          v.extension = if p.length > 8 then some (p.getD 8 0, p.getD 9 0) else none)

/-- R203, R163: the `setLED` frame delivers bit 0 of the option byte, whatever the payload. -/
def Obligations.SetLEDFrameDeliversBitZero : Prop :=
  ∀ (s : State) (t o : Byte) (p : List Byte) (ck : U16), p.length ≤ 249 → s.catalog.name t = .setLED →
    goodChecksum s t o p ck →
    ∃ u asks, exec (.setLED t o p ck) s = .next u ∧ handlerWillAsk s .setLED asks ∧
      DeliveredTo s .setLED t o p ck (some (.setLED (decide (o.toNat % 2 = 1)))) .ok asks u

/-- R204, R211: the `setVibrate` frame, both durations little-endian. -/
def Obligations.SetVibrateFrameIsDecodedAndDelivered : Prop :=
  ∀ (s : State) (t o : Byte) (p : List Byte) (ck : U16), p.length ≤ 249 → s.catalog.name t = .setVibrate →
    goodChecksum s t o p ck →
    ∃ u asks, exec (.setVibrate t o p ck) s = .next u ∧ handlerWillAsk s .setVibrate asks ∧
      (p.length < 6 → DeliveredTo s .setVibrate t o p ck none (.failed .malformedPayload) asks u) ∧
      (6 ≤ p.length →
        ∃ v : VibrateFields, DeliveredTo s .setVibrate t o p ck (some (.setVibrate v)) .ok asks u ∧
          v.action = p.getD 0 0 ∧ v.onTime.toNat = (p.getD 1 0).toNat + 256 * (p.getD 2 0).toNat ∧
          v.offTime.toNat = (p.getD 3 0).toNat + 256 * (p.getD 4 0).toNat ∧ v.cycles = p.getD 5 0)

/-- R205, R211: the `enableButton` frame; only callback kind `0x34` is supported. -/
def Obligations.EnableButtonFrameChecksTheCallbackKind : Prop :=
  ∀ (s : State) (t o : Byte) (p : List Byte) (ck : U16), p.length ≤ 249 → s.catalog.name t = .enableButton →
    goodChecksum s t o p ck →
    ∃ u asks, exec (.enableButton t o p ck) s = .next u ∧ handlerWillAsk s .enableButton asks ∧
      (p.length < 5 → DeliveredTo s .enableButton t o p ck none (.failed .malformedPayload) asks u) ∧
      (5 ≤ p.length →
        DeliveredTo s .enableButton t o p ck
          (some (.enableButton { mode := p.getD 0 0, buttonId := p.getD 1 0, pressType := p.getD 2 0 } (p.getD 3 0)
            (p.getD 4 0)))
          (if p.getD 3 0 = 0x34 then .ok else .failed (.notImplemented .unsupportedCallbackKind)) asks u)

/-- R206, R211: the `disableButton` frame. -/
def Obligations.DisableButtonFrameIsDecodedAndDelivered : Prop :=
  ∀ (s : State) (t o : Byte) (p : List Byte) (ck : U16), p.length ≤ 249 → s.catalog.name t = .disableButton →
    goodChecksum s t o p ck →
    ∃ u asks, exec (.disableButton t o p ck) s = .next u ∧ handlerWillAsk s .disableButton asks ∧
      (p.length < 3 → DeliveredTo s .disableButton t o p ck none (.failed .malformedPayload) asks u) ∧
      (3 ≤ p.length →
        DeliveredTo s .disableButton t o p ck
          (some (.disableButton { mode := p.getD 0 0, buttonId := p.getD 1 0, pressType := p.getD 2 0 })) .ok asks u)

/-- R207, R211, R166: the `writeLCD` frame: one row record, two when bit 4 is clear and the payload is longer than 13
bytes, malformed when a record is short. -/
def Obligations.WriteLCDFrameDeliversOneOrTwoRows : Prop :=
  ∀ (s : State) (t o : Byte) (p : List Byte) (ck : U16), p.length ≤ 249 → s.catalog.name t = .writeLCD →
    goodChecksum s t o p ck →
    ∃ u asks, exec (.writeLCD t o p ck) s = .next u ∧ handlerWillAsk s .writeLCD asks ∧
      (p.length < 13 ∨ (o.toNat / 16 % 2 = 0 ∧ 13 < p.length ∧ p.length < 26) →
        DeliveredTo s .writeLCD t o p ck none (.failed .malformedPayload) asks u) ∧
      (p.length = 13 ∨ (o.toNat / 16 % 2 = 1 ∧ 13 < p.length) →
        DeliveredTo s .writeLCD t o p ck
          (some (.writeLCD (o.toNat % 8) { index := p.getD 0 0, bits := (p.take 13).drop 1 } none)) .ok asks u) ∧
      (o.toNat / 16 % 2 = 0 ∧ 26 ≤ p.length →
        DeliveredTo s .writeLCD t o p ck
          (some (.writeLCD (o.toNat % 8) { index := p.getD 0 0, bits := (p.take 13).drop 1 }
            (some { index := p.getD 13 0, bits := (p.take 26).drop 14 }))) .ok asks u)

/-- R208, R167: the `updateLCD` frame delivers bits 2 to 0 of the option byte, whatever the payload. -/
def Obligations.UpdateLCDFrameDeliversTheMode : Prop :=
  ∀ (s : State) (t o : Byte) (p : List Byte) (ck : U16), p.length ≤ 249 → s.catalog.name t = .updateLCD →
    goodChecksum s t o p ck →
    ∃ u asks, exec (.updateLCD t o p ck) s = .next u ∧ handlerWillAsk s .updateLCD asks ∧
      DeliveredTo s .updateLCD t o p ck (some (.updateLCD (o.toNat % 8))) .ok asks u

/-- R209: the `getDeviceType` frame triggers exactly one COMPOSE during its dispatch; a payload is ignored. -/
def Obligations.GetDeviceTypeFrameTriggersOneCompose : Prop :=
  ∀ (s : State) (t o : Byte) (p : List Byte) (ck : U16), p.length ≤ 249 → s.catalog.name t = .getDeviceType →
    goodChecksum s t o p ck →
    ∃ u r, exec (.getDeviceType t o p ck) s = .next u ∧ handlerWillAsk s .getDeviceType [r] ∧
      DeliveredTo s .getDeviceType t o p ck (some .getDeviceType) .ok [r] u

/-- R188, R212: a message the catalog knows and no handler takes ends in `NotImplemented` with its own name; the stream
goes on. -/
def Obligations.KnownButUnsupportedMessagesAreNotImplemented : Prop :=
  ∀ (s : State) (t o : Byte) (p : List Byte) (ck : U16), p.length ≤ 249 → goodChecksum s t o p ck →
    (s.catalog.name t = .nvalSet →
      ∃ u, exec (.nvalSet t o p ck) s = .next u ∧ DeliveredToNobody s .nvalSet t o p ck u) ∧
    (s.catalog.name t = .buttonEvent →
      ∃ u, exec (.buttonEvent t o p ck) s = .next u ∧ DeliveredToNobody s .buttonEvent t o p ck u) ∧
    (s.catalog.name t = .deviceTypeResponse →
      ∃ u, exec (.deviceTypeResponse t o p ck) s = .next u ∧ DeliveredToNobody s .deviceTypeResponse t o p ck u) ∧
    (∀ k, s.catalog.name t = .other k →
      ∃ u, exec (.frame t o p ck) s = .next u ∧ DeliveredToNobody s (.other k) t o p ck u)

/-- R78: a code outside the catalog parses at the framing level and its dispatch names the sentinel. -/
def Obligations.UnknownCodesNameTheSentinel : Prop :=
  ∀ (s : State) (t o : Byte) (p : List Byte) (ck : U16), p.length ≤ 249 → goodChecksum s t o p ck →
    (∀ e ∈ s.catalog, e.1 ≠ t) →
    ∃ u, exec (.undocumented t o p ck) s = .next u ∧ DeliveredToNobody s .undocumented t o p ck u

/-! ### Option Unpacker -/

/-- R160: UNPACK gives `o[i] = (o >> i) mod 2`, PACK sums `bit_i * 2^i`, and they are inverse to each other. -/
def Obligations.OptionBitsUnpackAndPack : Prop :=
  ∀ (s : State) (o : Byte) (b : OptionBits), ∃ (u : OptionBits) (v : Byte),
    exec (.optUnpack o) s = .next { s with results := s.results ++ [.bits u] } ∧
      exec (.optPack b) s = .next { s with results := s.results ++ [.byte v] } ∧
      [u.b0, u.b1, u.b2, u.b3, u.b4, u.b5, u.b6, u.b7] =
        (List.range 8).map (fun i => decide ((o.toNat >>> i) % 2 = 1)) ∧
      v.toNat = b.b0.toNat + 2 * b.b1.toNat + 4 * b.b2.toNat + 8 * b.b3.toNat + 16 * b.b4.toNat + 32 * b.b5.toNat +
        64 * b.b6.toNat + 128 * b.b7.toNat ∧
      exec (.optPack u) s = .next { s with results := s.results ++ [.byte o] } ∧
      exec (.optUnpack v) s = .next { s with results := s.results ++ [.bits b] }

/-- R161: `OPT.BIT(o, i) = (o >> i) mod 2` for every bit number 0 to 7. -/
def Obligations.OptBitReadsOneBit : Prop :=
  ∀ (s : State) (o : Byte) (i : BitVec 3),
    exec (.optBit o i) s =
      .next { s with results := s.results ++ [.bit (decide ((o.toNat >>> i.toNat) % 2 = 1))] }

/-- R162: `OPT.FIELD(o, lo, w)` is the unsigned `w`-bit number `(o >> lo) mod 2^w`. That other pairs, which are no form of
it, are refused is the model's choice (log 14). -/
def Obligations.OptFieldReadsAnyField : Prop :=
  ∀ (s : State) (o : Byte) (lo w : Nat),
    (1 ≤ w → lo + w ≤ 8 →
      exec (.optField o lo w) s =
          .next { s with results := s.results ++ [.number ((o.toNat >>> lo) % 2 ^ w)] } ∧
        ∀ i < w, ((o.toNat >>> lo) % 2 ^ w).testBit i = o.getLsbD (lo + i)) ∧
      (w = 0 ∨ 8 < lo + w → exec (.optField o lo w) s = .refused .notAForm)

/-- R163 to R165 and R167: the four taps of the option byte alone. -/
def Obligations.OptionTapsReadTheirBits : Prop :=
  ∀ (s : State) (o : Byte),
    exec (.ledState o) s = .next { s with results := s.results ++ [.bit (decide (o.toNat % 2 = 1))] } ∧
      exec (.lcdMode o) s = .next { s with results := s.results ++ [.number (o.toNat % 8)] } ∧
      exec (.oneRow o) s = .next { s with results := s.results ++ [.bit (decide (o.toNat / 16 % 2 = 1))] } ∧
      exec (.updMode o) s = .next { s with results := s.results ++ [.number (o.toNat % 8)] }

/-- R166: `TWO_ROWS(o, n) = (o[4] = 0) and (n > 13)`. -/
def Obligations.TwoRowsNeedsClearBitAndLongPayload : Prop :=
  ∀ (s : State) (o : Byte) (n : Nat), ∃ b : Bool,
    exec (.twoRows o n) s = .next { s with results := s.results ++ [.bit b] } ∧
      (b = true ↔ o.toNat / 16 % 2 = 0 ∧ 13 < n)

/-! ### Catalog and Dispatcher -/

/-- R181: the entry for the code, else the sentinel; total. -/
def Obligations.CatalogNameIsTheEntryOrTheSentinel : Prop :=
  ∀ (s : State) (c : Byte), ∃ n : MsgName,
    exec (.catalogName c) s = .next { s with results := s.results ++ [.name n] } ∧
      ((∀ e ∈ s.catalog, e.1 ≠ c) → n = .undocumented) ∧
      (∀ m : MsgName, (s.catalog.map Prod.fst).Nodup → (c, m) ∈ s.catalog → n = m)

/-- R183: the unique code of a name, or absent; with CATALOG.NAME it is a bidirectional mapping. -/
def Obligations.CatalogCodeInvertsCatalogName : Prop :=
  ∀ (s : State) (n : MsgName),
    (n ≠ .undocumented → ∃ r : Option Byte,
      exec (.catalogCode n) s = .next { s with results := s.results ++ [.code r] } ∧
        (s.catalog.admissible = true → ∀ c, r = some c ↔ s.catalog.name c = n)) ∧
      (n = .undocumented → exec (.catalogCode n) s = .refused .notAForm)

/-- R186: DISPATCH runs the handler of the catalog's name, or the default arm with that name and no handler; nothing of a
PARSE in progress changes. -/
def Obligations.DispatchSelectsTheArmByName : Prop :=
  ∀ (s : State) (t o : Byte) (p : List Byte), ∃ u, exec (.dispatch t o p) s = .next u ∧
    (s.catalog.name t ∈ handlers →
      ∃ asks h call, handlerWillAsk s (s.catalog.name t) asks ∧ SameSetting s u ∧ u.pos = s.pos ∧ u.rxb = s.rxb ∧
        u.parse = s.parse ∧
        u.txb = (composedFrames s.reflectIn asks).getLastD s.txb ∧
        u.txQueue = s.txQueue ++ composedFrames s.reflectIn asks ∧
        u.results = s.results ++ composeResults s.reflectIn asks ++ [.dispatched (.handled (s.catalog.name t) h)] ∧
        u.handlerCalls = s.handlerCalls ++ [call] ∧ call.name = s.catalog.name t ∧ call.optionBits = o ∧
        call.payload = p ∧ u.handlerAsks = s.handlerAsks.tail) ∧
    (s.catalog.name t ∉ handlers →
      u = { s with results := s.results ++ [.dispatched (.notImplemented (s.catalog.name t))] })

/-- R211, R205, R190: the outcome of each of the eight handlers. A decode failure comes back unconditionally, and nothing but
the named payloads fails: on every other payload the outcome is `Ok`, unless a COMPOSE the handler asked for was refused
(then it is open: R239, log 9). The field widths of the button messages are log 20's. -/
def Obligations.HandlerOutcomesFollowTheContracts : Prop :=
  ∀ (s : State) (t o : Byte) (p : List Byte) (n : MsgName), s.catalog.name t = n → n ∈ handlers →
    ∃ u asks h, exec (.dispatch t o p) s = .next u ∧ handlerWillAsk s n asks ∧
      u.results = s.results ++ composeResults s.reflectIn asks ++ [.dispatched (.handled n h)] ∧
      (n = .setRTC →
        (p.length < 8 ∨ p.length = 9 → h = .failed .malformedPayload) ∧
          (p.length = 8 ∨ 10 ≤ p.length → AllFit asks → h = .ok)) ∧
      (n = .setVibrate →
        (p.length < 6 → h = .failed .malformedPayload) ∧ (6 ≤ p.length → AllFit asks → h = .ok)) ∧
      (n = .enableButton →
        (p.length < 5 → h = .failed .malformedPayload) ∧
          (5 ≤ p.length → p.getD 3 0 ≠ 0x34 → h = .failed (.notImplemented .unsupportedCallbackKind)) ∧
          (5 ≤ p.length → p.getD 3 0 = 0x34 → AllFit asks → h = .ok)) ∧
      (n = .disableButton →
        (p.length < 3 → h = .failed .malformedPayload) ∧ (3 ≤ p.length → AllFit asks → h = .ok)) ∧
      (n = .writeLCD →
        (p.length < 13 ∨ (o.toNat / 16 % 2 = 0 ∧ 13 < p.length ∧ p.length < 26) → h = .failed .malformedPayload) ∧
          (p.length = 13 ∨ (o.toNat / 16 % 2 = 1 ∧ 13 < p.length) ∨ 26 ≤ p.length → AllFit asks → h = .ok)) ∧
      (n = .setLED ∨ n = .updateLCD ∨ n = .getDeviceType → AllFit asks → h = .ok)

/-- R187, R201 to R209: what the operation DISPATCH hands to the handler it selects: the option byte, the payload and the
fields of the handler's contract, or no fields when the payload is malformed (R211). The fields are recorded by log 19; the
widths of the button messages are log 20's; some inner offsets are the spec's own inferences. -/
def Obligations.DispatchHandsTheDecodedFieldsToItsHandler : Prop :=
  ∀ (s : State) (t o : Byte) (p : List Byte) (n : MsgName), s.catalog.name t = n → n ∈ handlers →
    ∃ u call, exec (.dispatch t o p) s = .next u ∧ u.handlerCalls = s.handlerCalls ++ [call] ∧ call.name = n ∧
      call.optionBits = o ∧ call.payload = p ∧
      (n = .setRTC →
        (p.length < 8 ∨ p.length = 9 → call.view = none) ∧
          (p.length = 8 ∨ 10 ≤ p.length → ∃ v : RtcFields, call.view = some (.setRTC v) ∧
            v.year.toNat = (p.getD 0 0).toNat * 256 + (p.getD 1 0).toNat ∧ v.day = p.getD 3 0 ∧ v.month = p.getD 4 0 ∧
            v.hour = p.getD 5 0 ∧ v.weekday = p.getD 5 0 ∧ v.minute = p.getD 6 0 ∧ v.second = p.getD 7 0 ∧
            v.extension = if p.length > 8 then some (p.getD 8 0, p.getD 9 0) else none)) ∧
      (n = .setLED → call.view = some (.setLED (decide (o.toNat % 2 = 1)))) ∧
      (n = .setVibrate →
        (p.length < 6 → call.view = none) ∧
          (6 ≤ p.length → ∃ v : VibrateFields, call.view = some (.setVibrate v) ∧ v.action = p.getD 0 0 ∧
            v.onTime.toNat = (p.getD 1 0).toNat + 256 * (p.getD 2 0).toNat ∧
            v.offTime.toNat = (p.getD 3 0).toNat + 256 * (p.getD 4 0).toNat ∧ v.cycles = p.getD 5 0)) ∧
      (n = .enableButton →
        (p.length < 5 → call.view = none) ∧
          (5 ≤ p.length →
            call.view =
              some (.enableButton { mode := p.getD 0 0, buttonId := p.getD 1 0, pressType := p.getD 2 0 } (p.getD 3 0)
                (p.getD 4 0)))) ∧
      (n = .disableButton →
        (p.length < 3 → call.view = none) ∧
          (3 ≤ p.length →
            call.view =
              some (.disableButton { mode := p.getD 0 0, buttonId := p.getD 1 0, pressType := p.getD 2 0 }))) ∧
      (n = .writeLCD →
        (p.length < 13 ∨ (o.toNat / 16 % 2 = 0 ∧ 13 < p.length ∧ p.length < 26) → call.view = none) ∧
          (p.length = 13 ∨ (o.toNat / 16 % 2 = 1 ∧ 13 < p.length) →
            call.view =
              some (.writeLCD (o.toNat % 8) { index := p.getD 0 0, bits := (p.take 13).drop 1 } none)) ∧
          (o.toNat / 16 % 2 = 0 ∧ 26 ≤ p.length →
            call.view =
              some (.writeLCD (o.toNat % 8) { index := p.getD 0 0, bits := (p.take 13).drop 1 }
                (some { index := p.getD 13 0, bits := (p.take 26).drop 14 })))) ∧
      (n = .updateLCD → call.view = some (.updateLCD (o.toNat % 8))) ∧
      (n = .getDeviceType → call.view = some .getDeviceType)

/-! ### The step -/

/-- R130: while a PARSE is in progress and the bytes at the cursor decode to an instruction, the step is its meaning. -/
def Obligations.StepRunsTheFrameAtTheCursor : Prop :=
  ∀ (s : State) (i : Instr) (rest : List Byte), s.resetLine = false → s.parse ≠ none →
    decode s.catalog (s.rxb.drop s.pos) = .ok (i, rest) → step s = exec i s

/-- R275, R33, R260 and the model's choices of log 1, 7 and 16: between transactions the operation that waits longest
starts; with nothing waiting the block waits; an explicit reset request comes first. -/
def Obligations.StepStartsWaitingOperationsAndServesReset : Prop :=
  ∀ (s : State),
    (∀ (i : Instr) (more : List Instr), s.resetLine = false → s.parse = none → s.requests = i :: more →
      step s = exec i { s with requests := more }) ∧
      (s.resetLine = false → s.parse = none → s.requests = [] → step s = .next s) ∧
      (s.resetLine = true → step s = exec .reset { s with resetLine := false })

/-- R13, under the invariant: with only well-formed operations and allowed chunks waiting, every step goes on. -/
def Obligations.EveryStepGoesOn : Prop :=
  ∀ s : State, MachineInv s → (∀ i ∈ s.requests, i.wf s.catalog = true) →
    (∀ chunk, .parse chunk ∈ s.requests → chunkAllowed s chunk) → ∃ u, step s = .next u

/-- R24 to R29, R122, R153: every step keeps the invariant. -/
def Obligations.EveryStepKeepsTheInvariant : Prop :=
  ∀ s u : State, MachineInv s → step s = .next u → MachineInv u

/-- The invariant holds after reset. -/
def Obligations.ResetStateMeetsTheInvariant : Prop := MachineInv State.reset

/-- R20: what an observer sees of a step does not depend on the latches, on `TXB`, or on the cursor between
transactions. -/
def Obligations.LatchesAreNeverObserved : Prop :=
  ∀ s s' : State, MachineInv s → MachineInv s' → s.observed = s'.observed → sameOutcome (step s) (step s')

/-! ### Encoding -/

/-- R70 to R72: the words written out from the spec's encodings decode to their instructions (vectors V-SRC-1, V-PAR-12,
V-COM-3 and V-COM-12 of 95_test_vectors.md). -/
def Obligations.WrittenOutFramesDecode : Prop :=
  decode catT [0x01, 0x10, 0x26, 0x00, 0x03, 0xF2, 0x0C, 0x05, 0x02, 0x04, 0x2E, 0x3C, 0x01, 0x01, 0xFE, 0x49] =
      .ok (.setRTC 0x00 [0x03, 0xF2, 0x0C, 0x05, 0x02, 0x04, 0x2E, 0x3C, 0x01, 0x01] 0x49FE, []) ∧
    decode catT [0x01, 0x09, 0xAB, 0xFF, 0x01, 0x01, 0x01, 0xCF, 0x7A] =
      .ok (.undocumented 0xAB 0xFF [0x01, 0x01, 0x01] 0x7ACF, []) ∧
    decode catT [0x01, 0x06, 0x43, 0x01, 0x2D, 0x23, 0x00] = .ok (.updateLCD 0x43 0x01 [] 0x232D, [0x00]) ∧
    decode catT [0x01, 0x0B, 0x46, 0x00, 0x01, 0x02, 0x00, 0x34, 0xAA, 0x4B, 0x47] =
      .ok (.enableButton 0x46 0x00 [0x01, 0x02, 0x00, 0x34, 0xAA] 0x474B, [])

/-- R70, R72: every well-formed frame row decodes back from its encoding, whatever follows it. -/
def Obligations.DecodeOfEncodeIsTheInstruction : Prop :=
  ∀ (cat : Catalog) (i : Instr) (bytes rest : List Byte), i.wf cat = true → encode i = some bytes →
    decode cat (bytes ++ rest) = .ok (i, rest)

/-- R70, R77: whatever decodes is well formed and is exactly its encoding followed by the rest. -/
def Obligations.DecodedBytesAreAnEncoding : Prop :=
  ∀ (cat : Catalog) (B : List Byte) (i : Instr) (rest : List Byte), decode cat B = .ok (i, rest) →
    i.wf cat = true ∧ ∃ bytes, encode i = some bytes ∧ B = bytes ++ rest

/-! ### Whole operations -/

/-- R130: the machine's passes compute R130's loop. A PARSE of any chunk that is allowed returns, with the frames and the
error of the loop; each frame has the outcome its name selects; the handlers were called in arrival order, with the frames'
option bytes and payloads. The bound on the frames is R133's, which the spec derives; the bound on the passes, one pass per
step, the list of calls and the waiting list are the model's (log 1, 2, 19). -/
def Obligations.ParsePassesRefineTheNormativeLoop : Prop :=
  ∀ (s : State) (chunk : List Byte), s.parse = none → s.resetLine = false → chunkAllowed s chunk →
    ∃ v u r k calls, exec (.parse chunk) s = .next v ∧ k ≤ chunk.length / 6 + 1 ∧ Sys2Proof.core.run k v = .next u ∧
      u.parse = none ∧ u.requests = s.requests ∧ u.results.getLast? = some (.parsed r) ∧
      (r.frames.map fun f => (f.msgType, f.optionBits, f.payload), r.error) = parseReference s.reflectIn chunk ∧
      r.frames.length ≤ chunk.length / 6 ∧
      (∀ f ∈ r.frames,
        (s.catalog.name f.msgType ∈ handlers → ∃ h, f.outcome = .handled (s.catalog.name f.msgType) h) ∧
          (s.catalog.name f.msgType ∉ handlers → f.outcome = .notImplemented (s.catalog.name f.msgType))) ∧
      u.handlerCalls = s.handlerCalls ++ calls ∧
      (calls.map fun c => (c.name, c.optionBits, c.payload)) =
        (r.frames.filter fun f => decide (s.catalog.name f.msgType ∈ handlers)).map fun f =>
          (s.catalog.name f.msgType, f.optionBits, f.payload)

/-- R155, R134 (a): parsing what COMPOSE built delivers exactly the triple, with no error, and composing the triple again
gives the same bytes; for either reflection setting. -/
def Obligations.ParseOfComposeDeliversTheTriple : Prop :=
  ∀ (s : State) (t o : Byte) (p : List Byte), p.length ≤ 249 → s.parse = none → s.resetLine = false →
    ∃ f, composeValue s.reflectIn { msgType := t, optionBits := o, payload := p } = .bytes f ∧
      (chunkAllowed s f → ∃ v u r, exec (.parse f) s = .next v ∧ step v = .next u ∧ u.parse = none ∧
      u.results.getLast? = some (.parsed { frames := [r], error := none }) ∧
      r.msgType = t ∧ r.optionBits = o ∧ r.payload = p ∧
      (s.catalog.name t ∈ handlers → ∃ h, r.outcome = .handled (s.catalog.name t) h) ∧
      (s.catalog.name t ∉ handlers → r.outcome = .notImplemented (s.catalog.name t)) ∧
      composeValue u.reflectIn { msgType := r.msgType, optionBits := r.optionBits, payload := r.payload } = .bytes f)

/-- R134 (c), R62: a buffer of two composed frames delivers exactly the two, in order. -/
def Obligations.ConcatenatedFramesAreDeliveredInOrder : Prop :=
  ∀ (s : State) (a b : ComposeRequest) (f g : List Byte), s.parse = none → s.resetLine = false →
    chunkAllowed s (f ++ g) → composeValue s.reflectIn a = .bytes f → composeValue s.reflectIn b = .bytes g →
    ∃ v u x y, exec (.parse (f ++ g)) s = .next v ∧ Sys2Proof.core.run 2 v = .next u ∧ u.parse = none ∧
      u.results.getLast? = some (.parsed { frames := [x, y], error := none }) ∧
      (x.msgType, x.optionBits, x.payload) = (a.msgType, a.optionBits, a.payload) ∧
      (y.msgType, y.optionBits, y.payload) = (b.msgType, b.optionBits, b.payload)

/-- R108, R131: what one wrong byte in a composed frame alone in its buffer gives, by its offset. Offset 0 gives
`InvalidMessage`; offset 1 raised, or below 6, `InvalidMessage("length mismatch")`; offset 1 lowered to a value from 6 up
`InvalidChecksum`, unless the last two bytes of that shorter frame happen to be its checksum; any offset from 2 up
`InvalidChecksum`. -/
def Obligations.SingleByteCorruptionByOffset : Prop :=
  ∀ (s : State) (a : ComposeRequest) (f : List Byte) (k : Nat) (b : Byte), s.parse = none → s.resetLine = false →
    chunkAllowed s f → composeValue s.reflectIn a = .bytes f → k < f.length → f[k]? ≠ some b →
    ∃ v, exec (.parse (f.set k b)) s = .next v ∧
      (k = 0 → ∃ u, step v = .next u ∧
        u.results = s.results ++ [.parsed { frames := [], error := some .invalidMessage }]) ∧
      (k = 1 → b.toNat < 6 ∨ f.length < b.toNat → ∃ u, step v = .next u ∧
        u.results = s.results ++ [.parsed { frames := [], error := some .invalidMessageLengthMismatch }]) ∧
      (k = 1 → 6 ≤ b.toNat → b.toNat < f.length →
        (checksum s.reflectIn ((f.set 1 b).take (b.toNat - 2))).toNat ≠
          (f.getD (b.toNat - 2) 0).toNat + 256 * (f.getD (b.toNat - 1) 0).toNat →
        ∃ u, step v = .next u ∧
          u.results = s.results ++ [.parsed { frames := [], error := some .invalidChecksum }]) ∧
      (2 ≤ k → ∃ u, step v = .next u ∧
        u.results = s.results ++ [.parsed { frames := [], error := some .invalidChecksum }])

/-- R266, R32: the first part of a frame split over two chunks ends in `InvalidMessage("length mismatch")`, nothing is
delivered, and nothing of it stays in the buffer. -/
def Obligations.SplitFrameIsLost : Prop :=
  ∀ (s : State) (a : ComposeRequest) (f : List Byte) (k : Nat), s.parse = none → s.resetLine = false →
    chunkAllowed s (f.take k) → composeValue s.reflectIn a = .bytes f → 0 < k → k < f.length →
    ∃ v u, exec (.parse (f.take k)) s = .next v ∧ step v = .next u ∧ u.parse = none ∧ u.rxb = [] ∧
      u.handlerCalls = s.handlerCalls ∧
      u.results = s.results ++ [.parsed { frames := [], error := some .invalidMessageLengthMismatch }]

/-- R129: bytes after a frame that do not begin with `0x01` are dropped without an error, whatever follows them. -/
def Obligations.TrailingBytesAreDropped : Prop :=
  ∀ (s : State) (a : ComposeRequest) (f : List Byte) (b : Byte) (junk : List Byte), s.parse = none →
    s.resetLine = false → chunkAllowed s (f ++ b :: junk) → composeValue s.reflectIn a = .bytes f → b ≠ 0x01 →
    ∃ v u x, exec (.parse (f ++ b :: junk)) s = .next v ∧ step v = .next u ∧ u.parse = none ∧ u.rxb = [] ∧
      u.results.getLast? = some (.parsed { frames := [x], error := none }) ∧
      (x.msgType, x.optionBits, x.payload) = (a.msgType, a.optionBits, a.payload)
end

