-- ==== Sys2Proof/Laws/State.lean ====
section
/-! SUPPORT. One lemma per field per update of State: what each named update leaves in each field, true by rfl. -/

namespace Sys2Proof.Machine

/-! ### State.returns -/

@[simp] theorem State.returns_catalog (s : State) (r : OpResult) :
    (s.returns r).catalog = s.catalog := rfl

@[simp] theorem State.returns_rxMax (s : State) (r : OpResult) :
    (s.returns r).rxMax = s.rxMax := rfl

@[simp] theorem State.returns_reflectIn (s : State) (r : OpResult) :
    (s.returns r).reflectIn = s.reflectIn := rfl

@[simp] theorem State.returns_latches (s : State) (r : OpResult) :
    (s.returns r).latches = s.latches := rfl

@[simp] theorem State.returns_pos (s : State) (r : OpResult) :
    (s.returns r).pos = s.pos := rfl

@[simp] theorem State.returns_rxb (s : State) (r : OpResult) :
    (s.returns r).rxb = s.rxb := rfl

@[simp] theorem State.returns_txb (s : State) (r : OpResult) :
    (s.returns r).txb = s.txb := rfl

@[simp] theorem State.returns_parse (s : State) (r : OpResult) :
    (s.returns r).parse = s.parse := rfl

@[simp] theorem State.returns_resetLine (s : State) (r : OpResult) :
    (s.returns r).resetLine = s.resetLine := rfl

@[simp] theorem State.returns_requests (s : State) (r : OpResult) :
    (s.returns r).requests = s.requests := rfl

@[simp] theorem State.returns_handlerAsks (s : State) (r : OpResult) :
    (s.returns r).handlerAsks = s.handlerAsks := rfl

@[simp] theorem State.returns_handlerCalls (s : State) (r : OpResult) :
    (s.returns r).handlerCalls = s.handlerCalls := rfl

@[simp] theorem State.returns_results (s : State) (r : OpResult) :
    (s.returns r).results = s.results ++ [r] := rfl

@[simp] theorem State.returns_txQueue (s : State) (r : OpResult) :
    (s.returns r).txQueue = s.txQueue := rfl

@[simp] theorem State.returns_freeIndex (s : State) (r : OpResult) :
    (s.returns r).freeIndex = s.freeIndex := rfl

/-! ### State.setCrc -/

@[simp] theorem State.setCrc_catalog (s : State) (v : U16) :
    (s.setCrc v).catalog = s.catalog := rfl

@[simp] theorem State.setCrc_rxMax (s : State) (v : U16) :
    (s.setCrc v).rxMax = s.rxMax := rfl

@[simp] theorem State.setCrc_reflectIn (s : State) (v : U16) :
    (s.setCrc v).reflectIn = s.reflectIn := rfl

@[simp] theorem State.setCrc_latches (s : State) (v : U16) :
    (s.setCrc v).latches = { s.latches with crc := v } := rfl

@[simp] theorem State.setCrc_pos (s : State) (v : U16) :
    (s.setCrc v).pos = s.pos := rfl

@[simp] theorem State.setCrc_rxb (s : State) (v : U16) :
    (s.setCrc v).rxb = s.rxb := rfl

@[simp] theorem State.setCrc_txb (s : State) (v : U16) :
    (s.setCrc v).txb = s.txb := rfl

@[simp] theorem State.setCrc_parse (s : State) (v : U16) :
    (s.setCrc v).parse = s.parse := rfl

@[simp] theorem State.setCrc_resetLine (s : State) (v : U16) :
    (s.setCrc v).resetLine = s.resetLine := rfl

@[simp] theorem State.setCrc_requests (s : State) (v : U16) :
    (s.setCrc v).requests = s.requests := rfl

@[simp] theorem State.setCrc_handlerAsks (s : State) (v : U16) :
    (s.setCrc v).handlerAsks = s.handlerAsks := rfl

@[simp] theorem State.setCrc_handlerCalls (s : State) (v : U16) :
    (s.setCrc v).handlerCalls = s.handlerCalls := rfl

@[simp] theorem State.setCrc_results (s : State) (v : U16) :
    (s.setCrc v).results = s.results := rfl

@[simp] theorem State.setCrc_txQueue (s : State) (v : U16) :
    (s.setCrc v).txQueue = s.txQueue := rfl

@[simp] theorem State.setCrc_freeIndex (s : State) (v : U16) :
    (s.setCrc v).freeIndex = s.freeIndex := rfl

/-! ### State.setLen -/

@[simp] theorem State.setLen_catalog (s : State) (v : Byte) :
    (s.setLen v).catalog = s.catalog := rfl

@[simp] theorem State.setLen_rxMax (s : State) (v : Byte) :
    (s.setLen v).rxMax = s.rxMax := rfl

@[simp] theorem State.setLen_reflectIn (s : State) (v : Byte) :
    (s.setLen v).reflectIn = s.reflectIn := rfl

@[simp] theorem State.setLen_latches (s : State) (v : Byte) :
    (s.setLen v).latches = { s.latches with hLen := v } := rfl

@[simp] theorem State.setLen_pos (s : State) (v : Byte) :
    (s.setLen v).pos = s.pos := rfl

@[simp] theorem State.setLen_rxb (s : State) (v : Byte) :
    (s.setLen v).rxb = s.rxb := rfl

@[simp] theorem State.setLen_txb (s : State) (v : Byte) :
    (s.setLen v).txb = s.txb := rfl

@[simp] theorem State.setLen_parse (s : State) (v : Byte) :
    (s.setLen v).parse = s.parse := rfl

@[simp] theorem State.setLen_resetLine (s : State) (v : Byte) :
    (s.setLen v).resetLine = s.resetLine := rfl

@[simp] theorem State.setLen_requests (s : State) (v : Byte) :
    (s.setLen v).requests = s.requests := rfl

@[simp] theorem State.setLen_handlerAsks (s : State) (v : Byte) :
    (s.setLen v).handlerAsks = s.handlerAsks := rfl

@[simp] theorem State.setLen_handlerCalls (s : State) (v : Byte) :
    (s.setLen v).handlerCalls = s.handlerCalls := rfl

@[simp] theorem State.setLen_results (s : State) (v : Byte) :
    (s.setLen v).results = s.results := rfl

@[simp] theorem State.setLen_txQueue (s : State) (v : Byte) :
    (s.setLen v).txQueue = s.txQueue := rfl

@[simp] theorem State.setLen_freeIndex (s : State) (v : Byte) :
    (s.setLen v).freeIndex = s.freeIndex := rfl

/-! ### State.latchFrame -/

@[simp] theorem State.latchFrame_catalog (s : State) (t o : Byte) (p : List Byte) (ck : U16) :
    (s.latchFrame t o p ck).catalog = s.catalog := rfl

@[simp] theorem State.latchFrame_rxMax (s : State) (t o : Byte) (p : List Byte) (ck : U16) :
    (s.latchFrame t o p ck).rxMax = s.rxMax := rfl

@[simp] theorem State.latchFrame_reflectIn (s : State) (t o : Byte) (p : List Byte) (ck : U16) :
    (s.latchFrame t o p ck).reflectIn = s.reflectIn := rfl

@[simp] theorem State.latchFrame_latches (s : State) (t o : Byte) (p : List Byte) (ck : U16) :
    (s.latchFrame t o p ck).latches = { crc := s.latches.crc, hLen := BitVec.ofNat 8 (p.length + Config.overhead), hType := t, hOpt := o, hPay := p, hCk := ck } := rfl

@[simp] theorem State.latchFrame_pos (s : State) (t o : Byte) (p : List Byte) (ck : U16) :
    (s.latchFrame t o p ck).pos = s.pos := rfl

@[simp] theorem State.latchFrame_rxb (s : State) (t o : Byte) (p : List Byte) (ck : U16) :
    (s.latchFrame t o p ck).rxb = s.rxb := rfl

@[simp] theorem State.latchFrame_txb (s : State) (t o : Byte) (p : List Byte) (ck : U16) :
    (s.latchFrame t o p ck).txb = s.txb := rfl

@[simp] theorem State.latchFrame_parse (s : State) (t o : Byte) (p : List Byte) (ck : U16) :
    (s.latchFrame t o p ck).parse = s.parse := rfl

@[simp] theorem State.latchFrame_resetLine (s : State) (t o : Byte) (p : List Byte) (ck : U16) :
    (s.latchFrame t o p ck).resetLine = s.resetLine := rfl

@[simp] theorem State.latchFrame_requests (s : State) (t o : Byte) (p : List Byte) (ck : U16) :
    (s.latchFrame t o p ck).requests = s.requests := rfl

@[simp] theorem State.latchFrame_handlerAsks (s : State) (t o : Byte) (p : List Byte) (ck : U16) :
    (s.latchFrame t o p ck).handlerAsks = s.handlerAsks := rfl

@[simp] theorem State.latchFrame_handlerCalls (s : State) (t o : Byte) (p : List Byte) (ck : U16) :
    (s.latchFrame t o p ck).handlerCalls = s.handlerCalls := rfl

@[simp] theorem State.latchFrame_results (s : State) (t o : Byte) (p : List Byte) (ck : U16) :
    (s.latchFrame t o p ck).results = s.results := rfl

@[simp] theorem State.latchFrame_txQueue (s : State) (t o : Byte) (p : List Byte) (ck : U16) :
    (s.latchFrame t o p ck).txQueue = s.txQueue := rfl

@[simp] theorem State.latchFrame_freeIndex (s : State) (t o : Byte) (p : List Byte) (ck : U16) :
    (s.latchFrame t o p ck).freeIndex = s.freeIndex := rfl

/-! ### State.handOver -/

@[simp] theorem State.handOver_catalog (s : State) (c : HandlerCall) :
    (s.handOver c).catalog = s.catalog := rfl

@[simp] theorem State.handOver_rxMax (s : State) (c : HandlerCall) :
    (s.handOver c).rxMax = s.rxMax := rfl

@[simp] theorem State.handOver_reflectIn (s : State) (c : HandlerCall) :
    (s.handOver c).reflectIn = s.reflectIn := rfl

@[simp] theorem State.handOver_latches (s : State) (c : HandlerCall) :
    (s.handOver c).latches = s.latches := rfl

@[simp] theorem State.handOver_pos (s : State) (c : HandlerCall) :
    (s.handOver c).pos = s.pos := rfl

@[simp] theorem State.handOver_rxb (s : State) (c : HandlerCall) :
    (s.handOver c).rxb = s.rxb := rfl

@[simp] theorem State.handOver_txb (s : State) (c : HandlerCall) :
    (s.handOver c).txb = s.txb := rfl

@[simp] theorem State.handOver_parse (s : State) (c : HandlerCall) :
    (s.handOver c).parse = s.parse := rfl

@[simp] theorem State.handOver_resetLine (s : State) (c : HandlerCall) :
    (s.handOver c).resetLine = s.resetLine := rfl

@[simp] theorem State.handOver_requests (s : State) (c : HandlerCall) :
    (s.handOver c).requests = s.requests := rfl

@[simp] theorem State.handOver_handlerAsks (s : State) (c : HandlerCall) :
    (s.handOver c).handlerAsks = s.handlerAsks.tail := rfl

@[simp] theorem State.handOver_handlerCalls (s : State) (c : HandlerCall) :
    (s.handOver c).handlerCalls = s.handlerCalls ++ [c] := rfl

@[simp] theorem State.handOver_results (s : State) (c : HandlerCall) :
    (s.handOver c).results = s.results := rfl

@[simp] theorem State.handOver_txQueue (s : State) (c : HandlerCall) :
    (s.handOver c).txQueue = s.txQueue := rfl

@[simp] theorem State.handOver_freeIndex (s : State) (c : HandlerCall) :
    (s.handOver c).freeIndex = s.freeIndex + 1 := rfl

/-! ### State.startParse -/

@[simp] theorem State.startParse_catalog (s : State) (b : List Byte) :
    (s.startParse b).catalog = s.catalog := rfl

@[simp] theorem State.startParse_rxMax (s : State) (b : List Byte) :
    (s.startParse b).rxMax = s.rxMax := rfl

@[simp] theorem State.startParse_reflectIn (s : State) (b : List Byte) :
    (s.startParse b).reflectIn = s.reflectIn := rfl

@[simp] theorem State.startParse_latches (s : State) (b : List Byte) :
    (s.startParse b).latches = s.latches := rfl

@[simp] theorem State.startParse_pos (s : State) (b : List Byte) :
    (s.startParse b).pos = 0 := rfl

@[simp] theorem State.startParse_rxb (s : State) (b : List Byte) :
    (s.startParse b).rxb = b := rfl

@[simp] theorem State.startParse_txb (s : State) (b : List Byte) :
    (s.startParse b).txb = s.txb := rfl

@[simp] theorem State.startParse_parse (s : State) (b : List Byte) :
    (s.startParse b).parse = some [] := rfl

@[simp] theorem State.startParse_resetLine (s : State) (b : List Byte) :
    (s.startParse b).resetLine = s.resetLine := rfl

@[simp] theorem State.startParse_requests (s : State) (b : List Byte) :
    (s.startParse b).requests = s.requests := rfl

@[simp] theorem State.startParse_handlerAsks (s : State) (b : List Byte) :
    (s.startParse b).handlerAsks = s.handlerAsks := rfl

@[simp] theorem State.startParse_handlerCalls (s : State) (b : List Byte) :
    (s.startParse b).handlerCalls = s.handlerCalls := rfl

@[simp] theorem State.startParse_results (s : State) (b : List Byte) :
    (s.startParse b).results = s.results := rfl

@[simp] theorem State.startParse_txQueue (s : State) (b : List Byte) :
    (s.startParse b).txQueue = s.txQueue := rfl

@[simp] theorem State.startParse_freeIndex (s : State) (b : List Byte) :
    (s.startParse b).freeIndex = s.freeIndex := rfl

/-! ### State.endParse -/

@[simp] theorem State.endParse_catalog (s : State) (e : Option ProtocolError) :
    (s.endParse e).catalog = s.catalog := rfl

@[simp] theorem State.endParse_rxMax (s : State) (e : Option ProtocolError) :
    (s.endParse e).rxMax = s.rxMax := rfl

@[simp] theorem State.endParse_reflectIn (s : State) (e : Option ProtocolError) :
    (s.endParse e).reflectIn = s.reflectIn := rfl

@[simp] theorem State.endParse_latches (s : State) (e : Option ProtocolError) :
    (s.endParse e).latches = s.latches := rfl

@[simp] theorem State.endParse_pos (s : State) (e : Option ProtocolError) :
    (s.endParse e).pos = s.pos := rfl

@[simp] theorem State.endParse_rxb (s : State) (e : Option ProtocolError) :
    (s.endParse e).rxb = [] := rfl

@[simp] theorem State.endParse_txb (s : State) (e : Option ProtocolError) :
    (s.endParse e).txb = s.txb := rfl

@[simp] theorem State.endParse_parse (s : State) (e : Option ProtocolError) :
    (s.endParse e).parse = none := rfl

@[simp] theorem State.endParse_resetLine (s : State) (e : Option ProtocolError) :
    (s.endParse e).resetLine = s.resetLine := rfl

@[simp] theorem State.endParse_requests (s : State) (e : Option ProtocolError) :
    (s.endParse e).requests = s.requests := rfl

@[simp] theorem State.endParse_handlerAsks (s : State) (e : Option ProtocolError) :
    (s.endParse e).handlerAsks = s.handlerAsks := rfl

@[simp] theorem State.endParse_handlerCalls (s : State) (e : Option ProtocolError) :
    (s.endParse e).handlerCalls = s.handlerCalls := rfl

@[simp] theorem State.endParse_results (s : State) (e : Option ProtocolError) :
    (s.endParse e).results = s.results ++ [.parsed { frames := s.records, error := e }] := rfl

@[simp] theorem State.endParse_txQueue (s : State) (e : Option ProtocolError) :
    (s.endParse e).txQueue = s.txQueue := rfl

@[simp] theorem State.endParse_freeIndex (s : State) (e : Option ProtocolError) :
    (s.endParse e).freeIndex = s.freeIndex := rfl

/-! ### State.takeError -/

@[simp] theorem State.takeError_catalog (s : State) (e : ProtocolError) :
    (s.takeError e).catalog = s.catalog := rfl

@[simp] theorem State.takeError_rxMax (s : State) (e : ProtocolError) :
    (s.takeError e).rxMax = s.rxMax := rfl

@[simp] theorem State.takeError_reflectIn (s : State) (e : ProtocolError) :
    (s.takeError e).reflectIn = s.reflectIn := rfl

@[simp] theorem State.takeError_latches (s : State) (e : ProtocolError) :
    (s.takeError e).latches = s.latches := rfl

@[simp] theorem State.takeError_pos (s : State) (e : ProtocolError) :
    (s.takeError e).pos = s.pos := rfl

@[simp] theorem State.takeError_rxb (s : State) (e : ProtocolError) :
    (s.takeError e).rxb = [] := rfl

@[simp] theorem State.takeError_txb (s : State) (e : ProtocolError) :
    (s.takeError e).txb = s.txb := rfl

@[simp] theorem State.takeError_parse (s : State) (e : ProtocolError) :
    (s.takeError e).parse = none := rfl

@[simp] theorem State.takeError_resetLine (s : State) (e : ProtocolError) :
    (s.takeError e).resetLine = s.resetLine := rfl

@[simp] theorem State.takeError_requests (s : State) (e : ProtocolError) :
    (s.takeError e).requests = s.requests := rfl

@[simp] theorem State.takeError_handlerAsks (s : State) (e : ProtocolError) :
    (s.takeError e).handlerAsks = s.handlerAsks := rfl

@[simp] theorem State.takeError_handlerCalls (s : State) (e : ProtocolError) :
    (s.takeError e).handlerCalls = s.handlerCalls := rfl

@[simp] theorem State.takeError_results (s : State) (e : ProtocolError) :
    (s.takeError e).results = s.results ++ [.parsed { frames := s.records, error := some e }] := rfl

@[simp] theorem State.takeError_txQueue (s : State) (e : ProtocolError) :
    (s.takeError e).txQueue = s.txQueue := rfl

@[simp] theorem State.takeError_freeIndex (s : State) (e : ProtocolError) :
    (s.takeError e).freeIndex = s.freeIndex := rfl

/-! ### Derived readings -/

@[simp] theorem State.returns_records (s : State) (r : OpResult) : (s.returns r).records = s.records := rfl

@[simp] theorem State.setCrc_records (s : State) (v : U16) : (s.setCrc v).records = s.records := rfl

@[simp] theorem State.setLen_records (s : State) (v : Byte) : (s.setLen v).records = s.records := rfl

@[simp] theorem State.latchFrame_records (s : State) (t o : Byte) (p : List Byte) (ck : U16) : (s.latchFrame t o p ck).records = s.records := rfl

@[simp] theorem State.handOver_records (s : State) (c : HandlerCall) : (s.handOver c).records = s.records := rfl

@[simp] theorem State.returns_anotherFollows (s : State) (r : OpResult) (L : Nat) :
    (s.returns r).anotherFollows L = s.anotherFollows L := rfl

@[simp] theorem State.setCrc_anotherFollows (s : State) (v : U16) (L : Nat) :
    (s.setCrc v).anotherFollows L = s.anotherFollows L := rfl

@[simp] theorem State.setLen_anotherFollows (s : State) (v : Byte) (L : Nat) :
    (s.setLen v).anotherFollows L = s.anotherFollows L := rfl

@[simp] theorem State.latchFrame_anotherFollows (s : State) (t o : Byte) (p : List Byte) (ck : U16) (L : Nat) :
    (s.latchFrame t o p ck).anotherFollows L = s.anotherFollows L := rfl

@[simp] theorem State.handOver_anotherFollows (s : State) (c : HandlerCall) (L : Nat) :
    (s.handOver c).anotherFollows L = s.anotherFollows L := rfl

end Sys2Proof.Machine
end

