-- ==== Sys2Proof/Laws/Ops.lean ====
section
/-! SUPPORT. One lemma per shared operation that says once what it can do; proofs cite these and unfold nothing. -/

namespace Sys2Proof.Machine

/-! ### COMPOSE -/

/-- What a composition leaves of every field but the latches (R150, R152, R154). -/
structure Composed (s : State) (asks : List ComposeRequest) (u : State) : Prop where
  setting : SameSetting s u
  header : u.latches.hLen = s.latches.hLen ∧ u.latches.hType = s.latches.hType ∧ u.latches.hOpt = s.latches.hOpt ∧
    u.latches.hPay = s.latches.hPay ∧ u.latches.hCk = s.latches.hCk
  pos : u.pos = s.pos
  rxb : u.rxb = s.rxb
  parse : u.parse = s.parse
  txb : u.txb = (composedFrames s.reflectIn asks).getLastD s.txb
  txQueue : u.txQueue = s.txQueue ++ composedFrames s.reflectIn asks
  results : u.results = s.results ++ composeResults s.reflectIn asks
  handlerCalls : u.handlerCalls = s.handlerCalls
  handlerAsks : u.handlerAsks = s.handlerAsks
  freeIndex : u.freeIndex = s.freeIndex

theorem SameSetting.refl (s : State) : SameSetting s s := ⟨rfl, rfl, rfl, rfl, rfl⟩

theorem SameSetting.trans {s t u : State} (h : SameSetting s t) (k : SameSetting t u) : SameSetting s u :=
  ⟨k.catalog.trans h.catalog, k.rxMax.trans h.rxMax, k.reflectIn.trans h.reflectIn, k.resetLine.trans h.resetLine,
    k.requests.trans h.requests⟩

theorem composeValue_tooLong {b : Bool} {r : ComposeRequest} (h : 249 < r.payload.length) :
    composeValue b r = .payloadTooLong := if_pos h

theorem composeValue_fits {b : Bool} {r : ComposeRequest} (h : r.payload.length ≤ 249) :
    composeValue b r = .bytes (composeBytes b r.msgType r.optionBits r.payload) := if_neg (Nat.not_lt.mpr h)

theorem compose_spec (s : State) (r : ComposeRequest) : Composed s [r] (s.compose r) := by
  unfold State.compose
  cases h : composeValue s.reflectIn r with
  | payloadTooLong => constructor <;> simp [composedFrames, composeResults, h]; exact ⟨rfl, rfl, rfl, rfl, rfl⟩
  | bytes f => constructor <;> simp [composedFrames, composeResults, h]; exact ⟨rfl, rfl, rfl, rfl, rfl⟩

theorem Composed.cons {s t u : State} {r : ComposeRequest} {rs : List ComposeRequest} (h : Composed s [r] t)
    (k : Composed t rs u) : Composed s (r :: rs) u where
  setting := h.setting.trans k.setting
  header := by
    obtain ⟨h1, h2, h3, h4, h5⟩ := h.header
    obtain ⟨k1, k2, k3, k4, k5⟩ := k.header
    exact ⟨k1.trans h1, k2.trans h2, k3.trans h3, k4.trans h4, k5.trans h5⟩
  pos := k.pos.trans h.pos
  rxb := k.rxb.trans h.rxb
  parse := k.parse.trans h.parse
  txb := by
    rw [k.txb, h.txb, h.setting.reflectIn]
    cases hv : composeValue s.reflectIn r with
    | payloadTooLong => simp [composedFrames, hv]
    | bytes f => simp only [composedFrames, List.filterMap_cons, hv, List.filterMap_nil]; exact List.getLastD_cons.symm
  txQueue := by
    rw [k.txQueue, h.txQueue, h.setting.reflectIn]
    cases hv : composeValue s.reflectIn r <;> simp [composedFrames, hv]
  results := by rw [k.results, h.results, h.setting.reflectIn]; simp [composeResults]
  handlerCalls := k.handlerCalls.trans h.handlerCalls
  handlerAsks := k.handlerAsks.trans h.handlerAsks
  freeIndex := k.freeIndex.trans h.freeIndex

theorem composeAll_spec (s : State) (asks : List ComposeRequest) : Composed s asks (s.composeAll asks) := by
  induction asks generalizing s with
  | nil => constructor <;> simp [State.composeAll, SameSetting.refl, composedFrames, composeResults]
  | cons r rs ih => exact (compose_spec s r).cons (ih (s.compose r))

/-! ### The dispatcher -/

theorem payloadFits_iff (p : List Byte) : payloadFits p = true ↔ p.length ≤ 249 := decide_eq_true_iff

theorem asksFit_iff (asks : List ComposeRequest) : asksFit asks = true ↔ AllFit asks := by
  simp [asksFit, AllFit, payloadFits_iff]

/-- A handler returns its contract's outcome; only an `Ok` is open, and only after a refused COMPOSE (R190, R239). -/
theorem handlerReturn_eq (asks : List ComposeRequest) (outcome : HandlerOutcome) (k : Nat)
    (h : outcome ≠ .ok ∨ AllFit asks) : handlerReturn asks outcome k = outcome := by
  cases outcome with
  | failed e => rfl
  | ok => exact if_pos ((asksFit_iff asks).mpr (h.resolve_left fun k => k rfl))

/-- What the dispatch of a frame does to the state: a handler's arm, or the default arm that changes nothing. -/
theorem runHandler_spec (s : State) (n : MsgName) (c : Contract) (o : Byte) (p : List Byte) :
    Composed (s.handOver { name := n, optionBits := o, payload := p, view := c.view }) (s.asks n)
        (s.runHandler n c o p).1 ∧
      ∃ h, (s.runHandler n c o p).2 = .handled n h ∧ (c.outcome ≠ .ok ∨ AllFit (s.asks n) → h = c.outcome) :=
  ⟨composeAll_spec _ _, _, rfl, handlerReturn_eq _ _ _⟩

/-- The contract of the handler of a name, for the eight names of `HANDLERS` (R186). -/
def contractOf (n : MsgName) (o : Byte) (p : List Byte) : Option Contract :=
  match n with
  | .setRTC => some (setRTCContract p)
  | .setLED => some (setLEDContract o)
  | .setVibrate => some (setVibrateContract p)
  | .enableButton => some (enableButtonContract p)
  | .disableButton => some (disableButtonContract p)
  | .writeLCD => some (writeLCDContract o p)
  | .updateLCD => some (updateLCDContract o)
  | .getDeviceType => some getDeviceTypeContract
  | _ => none

/-- `DISPATCH` in one equation: the arm of the catalog's name, or the default arm (R186). -/
theorem dispatch_eq (s : State) (t o : Byte) (p : List Byte) :
    s.dispatch t o p =
      match contractOf (s.catalog.name t) o p with
      | some c => s.runHandler (s.catalog.name t) c o p
      | none => (s, .notImplemented (s.catalog.name t)) := by
  unfold State.dispatch
  cases s.catalog.name t <;> rfl

/-- The names with a contract are the names of `HANDLERS` (R30). -/
theorem contractOf_isSome (n : MsgName) (o : Byte) (p : List Byte) : (contractOf n o p).isSome ↔ n ∈ handlers := by
  cases n <;> simp [contractOf, handlers]

/-! ### Receiving a frame -/

theorem anotherFollows_iff (s : State) (L : Nat) : s.anotherFollows L = true ↔ followedByFrame s L := by
  unfold State.anotherFollows
  rw [Bool.and_eq_true, decide_eq_true_iff, decide_eq_true_iff]
  exact Iff.rfl

/-- Stage P6 does one of two things (R128, R129). -/
theorem acceptRecord_cases (s : State) (L : Nat) (r : FrameRecord) :
    (followedByFrame s L ∧ s.acceptRecord L r = { s with pos := s.pos + L, parse := some (s.records ++ [r]) }) ∨
      (¬ followedByFrame s L ∧
        s.acceptRecord L r =
          { s with
            parse := none, rxb := [],
            results := s.results ++ [.parsed { frames := s.records ++ [r], error := none }] }) := by
  unfold State.acceptRecord
  by_cases h : s.anotherFollows L = true
  · exact .inl ⟨(anotherFollows_iff s L).mp h, if_pos h⟩
  · exact .inr ⟨fun k => h ((anotherFollows_iff s L).mpr k), if_neg h⟩

theorem headBytes_eq (t o : Byte) (p : List Byte) :
    headBytes t o p = [0x01, BitVec.ofNat 8 (p.length + 6), t, o] ++ p := rfl

/-- A frame with a wrong checksum ends its PARSE (R126, R236). -/
theorem receive_bad {s : State} {t o : Byte} {p : List Byte} {ck : U16} (arm : State → State × DispatchOutcome)
    (h : ¬ goodChecksum s t o p ck) : ∃ u, s.receive t o p ck arm = .next u ∧ EndedWith s .invalidChecksum u := by
  have h' : checksum s.reflectIn (headBytes t o p) ≠ ck := fun k => h (by rw [goodChecksum, ← headBytes_eq, k])
  refine ⟨_, by rw [State.receive]; exact if_neg h', ?_⟩
  exact ⟨⟨rfl, rfl, rfl, rfl, rfl⟩, rfl, rfl, rfl, rfl, rfl, rfl, rfl, rfl, rfl⟩

/-- A frame with the right checksum is handed to its arm and then accepted. -/
theorem receive_good {s : State} {t o : Byte} {p : List Byte} {ck : U16} (arm : State → State × DispatchOutcome)
    (h : goodChecksum s t o p ck) :
    s.receive t o p ck arm =
      .next (((arm ((s.latchFrame t o p ck).setCrc ck)).1).acceptRecord (p.length + Config.overhead)
        { msgType := t, optionBits := o, payload := p, outcome := (arm ((s.latchFrame t o p ck).setCrc ck)).2 }) := by
  have h' : checksum s.reflectIn (headBytes t o p) = ck := h.symm
  simp only [State.receive, h', if_true]

/-- From what an arm does after the latches are written to what the accepted frame leaves. -/
theorem Accepted.of_composed {s v : State} {t o : Byte} {p : List Byte} {ck : U16} {out : DispatchOutcome}
    {asks : List ComposeRequest} (w : State) (hw : Composed w asks v) (hs : SameSetting s w) (hp : w.pos = s.pos)
    (hr : w.rxb = s.rxb) (hf : w.parse = s.parse) (ht : w.txb = s.txb) (hq : w.txQueue = s.txQueue)
    (hres : w.results = s.results)
    (hl : w.latches.hLen = BitVec.ofNat 8 (p.length + 6) ∧ w.latches.hType = t ∧ w.latches.hOpt = o ∧
      w.latches.hPay = p ∧ w.latches.hCk = ck) :
    Accepted s t o p ck out asks
      (v.acceptRecord (p.length + Config.overhead) { msgType := t, optionBits := o, payload := p, outcome := out }) := by
  have hF : ∀ L, followedByFrame v L ↔ followedByFrame s L := by
    intro L; simp [followedByFrame, hw.rxb, hw.pos, hp, hr]
  have hrec : v.records = s.records := by simp [State.records, hw.parse, hf]
  obtain ⟨l1, l2, l3, l4, l5⟩ := hl
  obtain ⟨k1, k2, k3, k4, k5⟩ := hw.header
  have hset := hs.trans hw.setting
  have hb := hs.reflectIn
  rcases acceptRecord_cases v (p.length + Config.overhead)
      { msgType := t, optionBits := o, payload := p, outcome := out } with ⟨hy, he⟩ | ⟨hn, he⟩
  · have hy' := (hF _).mp hy
    rw [he]
    refine ⟨⟨hset.1, hset.2, hset.3, hset.4, hset.5⟩, k1.trans l1, k2.trans l2, k3.trans l3, k4.trans l4, k5.trans l5,
      ?_, ?_, fun _ => ⟨?_, hw.rxb.trans hr, ?_, ?_⟩, fun h => absurd hy' h⟩
    · simp [hw.txQueue, hq, hb]
    · simp [hw.txb, ht, hb]
    · simp [hw.pos, hp, Config.overhead]
    · simp [hrec]
    · simp [hw.results, hres, hb]
  · have hn' := fun h => hn ((hF _).mpr h)
    rw [he]
    refine ⟨⟨hset.1, hset.2, hset.3, hset.4, hset.5⟩, k1.trans l1, k2.trans l2, k3.trans l3, k4.trans l4, k5.trans l5,
      ?_, ?_, fun h => absurd h hn', fun _ => ⟨hw.pos.trans hp, rfl, rfl, ?_⟩⟩
    · simp [hw.txQueue, hq, hb]
    · simp [hw.txb, ht, hb]
    · simp [hw.results, hres, hb, hrec]

/-- A frame that a handler takes: what the whole reception leaves. -/
theorem receive_handler {s : State} {n : MsgName} {t o : Byte} {p : List Byte} {ck : U16} (c : Contract)
    (h : goodChecksum s t o p ck) :
    ∃ u, (s.receive t o p ck fun u => u.runHandler n c o p) = .next u ∧
      DeliveredTo s n t o p ck c.view c.outcome (s.asks n) u := by
  refine ⟨_, receive_good _ h, ?_⟩
  let w : State := ((s.latchFrame t o p ck).setCrc ck).handOver
    { name := n, optionBits := o, payload := p, view := c.view }
  have hasks : ((s.latchFrame t o p ck).setCrc ck).asks n = s.asks n := by
    cases n <;> rfl
  obtain ⟨hc, g, hg, hfit⟩ := runHandler_spec ((s.latchFrame t o p ck).setCrc ck) n c o p
  rw [hasks] at hc hfit
  have hacc : ∀ r : FrameRecord, ∀ v : State, (v.acceptRecord (p.length + Config.overhead) r).handlerCalls = v.handlerCalls ∧
      (v.acceptRecord (p.length + Config.overhead) r).handlerAsks = v.handlerAsks := by
    intro r v
    rcases acceptRecord_cases v (p.length + Config.overhead) r with ⟨_, he⟩ | ⟨_, he⟩ <;> rw [he] <;> exact ⟨rfl, rfl⟩
  refine ⟨⟨g, ?_, hfit⟩, ?_, ?_⟩
  · rw [hg]
    exact Accepted.of_composed w hc ⟨rfl, rfl, rfl, rfl, rfl⟩ rfl rfl rfl rfl rfl rfl ⟨rfl, rfl, rfl, rfl, rfl⟩
  · rw [(hacc _ _).1, hc.handlerCalls]; rfl
  · rw [(hacc _ _).2, hc.handlerAsks]; rfl

/-- A frame that reaches the default arm: what the whole reception leaves. -/
theorem receive_default {s : State} {n : MsgName} {t o : Byte} {p : List Byte} {ck : U16}
    (h : goodChecksum s t o p ck) :
    ∃ u, (s.receive t o p ck fun u => (u, .notImplemented n)) = .next u ∧ DeliveredToNobody s n t o p ck u := by
  refine ⟨_, receive_good _ h, ?_, ?_, ?_, ?_⟩
  · exact Accepted.of_composed ((s.latchFrame t o p ck).setCrc ck)
      (by constructor <;> simp [SameSetting.refl, composedFrames, composeResults])
      ⟨rfl, rfl, rfl, rfl, rfl⟩ rfl rfl rfl rfl rfl rfl ⟨rfl, rfl, rfl, rfl, rfl⟩
  all_goals
    rcases acceptRecord_cases ((s.latchFrame t o p ck).setCrc ck) (p.length + Config.overhead)
      { msgType := t, optionBits := o, payload := p, outcome := .notImplemented n } with ⟨_, he⟩ | ⟨_, he⟩ <;>
    simp [he]

/-- A frame row whose payload fits and whose msgType resolves to its name is received. -/
theorem receiveAs_eq {s : State} {n : MsgName} {t : Byte} {p : List Byte} (o : Byte) (ck : U16)
    (arm : State → State × DispatchOutcome) (hp : p.length ≤ 249) (hn : s.catalog.name t = n) :
    s.receiveAs n t o p ck arm = s.receive t o p ck arm :=
  if_pos ⟨(payloadFits_iff p).mpr hp, hn⟩

/-- Any other is refused. -/
theorem receiveAs_refused {s : State} {n : MsgName} {t : Byte} {p : List Byte} (o : Byte) (ck : U16)
    (arm : State → State × DispatchOutcome) (h : ¬ (p.length ≤ 249 ∧ s.catalog.name t = n)) :
    s.receiveAs n t o p ck arm = .refused .notAForm :=
  if_neg fun k => h ⟨(payloadFits_iff p).mp k.1, k.2⟩

/-! ### The framing errors of a failed fetch -/

theorem takeError_spec (s : State) (e : ProtocolError) : EndedWith s e (s.takeError e) := by
  exact ⟨⟨rfl, rfl, rfl, rfl, rfl⟩, rfl, rfl, rfl, rfl, rfl, rfl, rfl, rfl, rfl⟩

theorem latchLength_takeError_spec (s : State) (e : ProtocolError) : EndedWith s e (s.latchLength.takeError e) := by
  exact ⟨⟨rfl, rfl, rfl, rfl, rfl⟩, rfl, rfl, rfl, rfl, rfl, rfl, rfl, rfl, rfl⟩

end Sys2Proof.Machine
end

