-- ==== Sys2Proof/Laws/PerInstr.lean ====
section
/-! SUPPORT. The family FrameShape: for each instruction, its encoding (if it has one) is a frame of the format whenever the
instruction is well formed (R70, R73). One lemma per constructor. -/

namespace Sys2Proof.Laws.FrameShape

open Sys2Proof.Machine

/-- A well-formed instruction's encoding is a frame: start byte, its own length, 6 to 255 bytes. -/
def Statement (i : Instr) : Prop :=
  ∀ (cat : Catalog) (bytes : List Byte), i.wf cat = true → encode i = some bytes → framed bytes

theorem framed_frameBytes (t o : Byte) (p : List Byte) (ck : U16) (h : payloadFits p = true) :
    framed (frameBytes t o p ck) := by
  have hp : p.length ≤ 249 := of_decide_eq_true h
  have hl : (frameBytes t o p ck).length = p.length + 6 := by simp [frameBytes, appendWord, headBytes]
  exact ⟨by omega, by omega, rfl, by rw [hl]; rfl⟩

/-- A frame row: its check asks that the payload fits, and its encoding is the frame. -/
theorem of_row {i : Instr} {t o : Byte} {p : List Byte} {ck : U16} (he : encode i = some (frameBytes t o p ck))
    (hw : ∀ cat, i.wf cat = true → payloadFits p = true) : Statement i := by
  intro cat bytes h hb
  rw [he] at hb
  cases hb
  exact framed_frameBytes t o p ck (hw cat h)

/-- A row of format OP has no encoding. -/
theorem of_operation {i : Instr} (he : encode i = none) : Statement i := by
  intro cat bytes _ hb
  rw [he] at hb
  cases hb

theorem frame (t o : Byte) (p : List Byte) (ck : U16) : Statement (.frame t o p ck) :=
  of_row rfl fun _ h => (Bool.and_eq_true_iff.mp h).1

theorem setRTC (o : Byte) (p : List Byte) (ck : U16) : Statement (.setRTC o p ck) :=
  of_row rfl fun _ h => (Bool.and_eq_true_iff.mp h).1

theorem setLED (t o : Byte) (p : List Byte) (ck : U16) : Statement (.setLED t o p ck) :=
  of_row rfl fun _ h => (Bool.and_eq_true_iff.mp h).1

theorem setVibrate (t o : Byte) (p : List Byte) (ck : U16) : Statement (.setVibrate t o p ck) :=
  of_row rfl fun _ h => (Bool.and_eq_true_iff.mp h).1

theorem enableButton (t o : Byte) (p : List Byte) (ck : U16) : Statement (.enableButton t o p ck) :=
  of_row rfl fun _ h => (Bool.and_eq_true_iff.mp h).1

theorem disableButton (t o : Byte) (p : List Byte) (ck : U16) : Statement (.disableButton t o p ck) :=
  of_row rfl fun _ h => (Bool.and_eq_true_iff.mp h).1

theorem writeLCD (t o : Byte) (p : List Byte) (ck : U16) : Statement (.writeLCD t o p ck) :=
  of_row rfl fun _ h => (Bool.and_eq_true_iff.mp h).1

theorem updateLCD (t o : Byte) (p : List Byte) (ck : U16) : Statement (.updateLCD t o p ck) :=
  of_row rfl fun _ h => (Bool.and_eq_true_iff.mp h).1

theorem getDeviceType (t o : Byte) (p : List Byte) (ck : U16) : Statement (.getDeviceType t o p ck) :=
  of_row rfl fun _ h => (Bool.and_eq_true_iff.mp h).1

theorem nvalSet (t o : Byte) (p : List Byte) (ck : U16) : Statement (.nvalSet t o p ck) :=
  of_row rfl fun _ h => (Bool.and_eq_true_iff.mp h).1

theorem buttonEvent (t o : Byte) (p : List Byte) (ck : U16) : Statement (.buttonEvent t o p ck) :=
  of_row rfl fun _ h => (Bool.and_eq_true_iff.mp h).1

theorem deviceTypeResponse (t o : Byte) (p : List Byte) (ck : U16) : Statement (.deviceTypeResponse t o p ck) :=
  of_row rfl fun _ h => (Bool.and_eq_true_iff.mp h).1

theorem undocumented (t o : Byte) (p : List Byte) (ck : U16) : Statement (.undocumented t o p ck) :=
  of_row rfl fun _ h => (Bool.and_eq_true_iff.mp h).1

theorem reflect8 (b : Byte) : Statement (.reflect8 b) := of_operation rfl

theorem crcTable (i : Byte) : Statement (.crcTable i) := of_operation rfl

theorem crcSeed : Statement .crcSeed := of_operation rfl

theorem crcUpdate (c : U16) (b : Byte) : Statement (.crcUpdate c b) := of_operation rfl

theorem checksum (d : List Byte) : Statement (.checksum d) := of_operation rfl

theorem parse (chunk : List Byte) : Statement (.parse chunk) := of_operation rfl

theorem compose (t : Byte) (o : Byte) (p : List Byte) : Statement (.compose t o p) := of_operation rfl

theorem optUnpack (o : Byte) : Statement (.optUnpack o) := of_operation rfl

theorem optPack (bits : OptionBits) : Statement (.optPack bits) := of_operation rfl

theorem optBit (o : Byte) (i : BitVec 3) : Statement (.optBit o i) := of_operation rfl

theorem optField (o : Byte) (lo : Nat) (w : Nat) : Statement (.optField o lo w) := of_operation rfl

theorem ledState (o : Byte) : Statement (.ledState o) := of_operation rfl

theorem lcdMode (o : Byte) : Statement (.lcdMode o) := of_operation rfl

theorem oneRow (o : Byte) : Statement (.oneRow o) := of_operation rfl

theorem twoRows (o : Byte) (n : Nat) : Statement (.twoRows o n) := of_operation rfl

theorem updMode (o : Byte) : Statement (.updMode o) := of_operation rfl

theorem catalogName (c : Byte) : Statement (.catalogName c) := of_operation rfl

theorem catalogCode (n : MsgName) : Statement (.catalogCode n) := of_operation rfl

theorem dispatch (t : Byte) (o : Byte) (p : List Byte) : Statement (.dispatch t o p) := of_operation rfl

theorem reset : Statement .reset := of_operation rfl

theorem cfgWrite (v : Bool) : Statement (.cfgWrite v) := of_operation rfl

end Sys2Proof.Laws.FrameShape
end

