-- ==== Sys2Proof/Tests/Slice0.lean ====
section
/-! SUPPORT. The model's own tests: expected values from spec/95_test_vectors.md, the listing of R102 and the encodings of
30_encoding.md; the smoke of the well-formedness checks; and for every obligation with hypotheses a witness that meets them.
The vector or rule is named with each test. -/

namespace Sys2Proof.Tests

open Sys2Proof Sys2Proof.Machine

-- One theorem at a time: many kernel evaluations at once exhaust the memory limit.
set_option Elab.async false

/-! ### Helpers -/

/-- A PARSE that has just started on a chunk, after reset. -/
def during (chunk : List Byte) : State := State.reset.startParse chunk

/-- The results a step has returned; none if it stopped. -/
def resultsOf : Result → Option (List OpResult)
  | .next s => some s.results
  | _ => none

/-- The next state, if there is one. -/
def nextOf : Result → Option State
  | .next s => some s
  | _ => none

/-- Why a step was refused. -/
def refusalOf : Result → Option Refusal
  | .refused r => some r
  | _ => none

/-- Why a step faulted. -/
def faultOf : Result → Option Fault
  | .fault r => some r
  | _ => none

/-- What an operation returns right after reset. -/
def answer (i : Instr) : Option (List OpResult) := resultsOf (exec i State.reset)

/-- What one pass over a chunk returns, when it ends the PARSE. -/
def onePass (chunk : List Byte) : Option (List OpResult) := resultsOf (step (during chunk))

/-- A PARSE result with no frame. -/
def onlyError (e : ProtocolError) : Option (List OpResult) := some [.parsed { frames := [], error := some e }]

/-- The decoded views handed to handlers in one pass over a chunk. -/
def viewsOf (chunk : List Byte) : Option (List (Option HandlerView)) :=
  (nextOf (step (during chunk))).map fun s => s.handlerCalls.map HandlerCall.view

/-- The source's setRTC frame (V-SRC-1). -/
def srcFrame : List Byte :=
  [0x01, 0x10, 0x26, 0x00, 0x03, 0xF2, 0x0C, 0x05, 0x02, 0x04, 0x2E, 0x3C, 0x01, 0x01, 0xFE, 0x49]

/-- Its payload. -/
def srcPayload : List Byte := [0x03, 0xF2, 0x0C, 0x05, 0x02, 0x04, 0x2E, 0x3C, 0x01, 0x01]

/-- The getDeviceType frame of V-COM-1. -/
def gdtFrame : List Byte := [0x01, 0x06, 0x01, 0x00, 0x0B, 0xD9]

/-- The request of Program 1's environment. -/
def gdtAsk : ComposeRequest := { msgType := 0x02, optionBits := 0x00, payload := [0x02] }

/-- A PARSE that has just started, with Program 1's environment. -/
def duringAsked (chunk : List Byte) : State := { during chunk with handlerAsks := [[gdtAsk]] }

/-! ### Well-formedness: for each check a term it refuses, and one at the bound that it accepts -/

theorem test_wf_payload_bound :
    Instr.wf catT (.setRTC 0 (List.replicate 249 0) 0) = true ∧ Instr.wf catT (.setRTC 0 (List.replicate 250 0) 0) = false ∧
      Instr.wf catT (.undocumented 0xEE 0 (List.replicate 250 0) 0) = false := by decide +kernel

theorem test_wf_name_of_each_row :
    Instr.wf catS (.setLED 0x0C 0 [] 0) = false ∧ Instr.wf catT (.setVibrate 0x0C 0 [] 0) = false ∧
      Instr.wf catT (.enableButton 0x47 0 [] 0) = false ∧ Instr.wf catT (.disableButton 0x46 0 [] 0) = false ∧
      Instr.wf catT (.writeLCD 0x43 0 [] 0) = false ∧ Instr.wf catT (.updateLCD 0x40 0 [] 0) = false ∧
      Instr.wf catT (.getDeviceType 0x02 0 [] 0) = false ∧ Instr.wf catT (.nvalSet 0x34 0 [] 0) = false ∧
      Instr.wf catT (.buttonEvent 0x30 0 [] 0) = false ∧ Instr.wf catT (.deviceTypeResponse 0x01 0 [] 0) = false ∧
      Instr.wf catT (.undocumented 0x26 0 [] 0) = false ∧ Instr.wf [] (.setRTC 0 [] 0) = false := by decide

theorem test_wf_generic_frame :
    Instr.wf catT (.frame 0x26 0 [] 0) = false ∧ Instr.wf catT (.frame 0xEE 0 [] 0) = false ∧
      Instr.wf [(0x26, .setRTC), (0x50, .other 0)] (.frame 0x50 0 [] 0) = true := by decide

theorem test_wf_opt_field :
    Instr.wf catT (.optField 0 0 0) = false ∧ Instr.wf catT (.optField 0 7 2) = false ∧
      Instr.wf catT (.optField 0 7 1) = true ∧ Instr.wf catT (.optField 0 0 8) = true := by decide

theorem test_wf_catalog_code_of_sentinel :
    Instr.wf catT (.catalogCode .undocumented) = false ∧ Instr.wf catT (.catalogCode .setRTC) = true := by decide

/-! ### Decoding: words written out from the encoding of R70 to R72 -/

theorem test_decode_setRTC : decode catT srcFrame = .ok (.setRTC 0x00 srcPayload 0x49FE, []) := by decide +kernel

theorem test_decode_setLED :
    decode catT [0x01, 0x06, 0x0C, 0x01, 0x8E, 0x56] = .ok (.setLED 0x0C 0x01 [] 0x568E, []) := by decide +kernel

theorem test_decode_setVibrate :
    decode catT [0x01, 0x0C, 0x23, 0x00, 0x01, 0xF4, 0x01, 0xF4, 0x01, 0x03, 0x45, 0xF9] =
      .ok (.setVibrate 0x23 0x00 [0x01, 0xF4, 0x01, 0xF4, 0x01, 0x03] 0xF945, []) := by decide +kernel

theorem test_decode_enableButton :
    decode catT [0x01, 0x0B, 0x46, 0x00, 0x01, 0x02, 0x00, 0x34, 0xAA, 0x4B, 0x47] =
      .ok (.enableButton 0x46 0x00 [0x01, 0x02, 0x00, 0x34, 0xAA] 0x474B, []) := by decide +kernel

theorem test_decode_disableButton :
    decode catT [0x01, 0x09, 0x47, 0x00, 0x01, 0x02, 0x00, 0x8A, 0xDD] =
      .ok (.disableButton 0x47 0x00 [0x01, 0x02, 0x00] 0xDD8A, []) := by decide +kernel

theorem test_decode_writeLCD :
    decode catT
        [0x01, 0x13, 0x40, 0x11, 0x00, 0x01, 0x02, 0x03, 0x04, 0x05, 0x06, 0x07, 0x08, 0x09, 0x0A, 0x0B, 0x0C, 0xE6, 0x8D] =
      .ok (.writeLCD 0x40 0x11 [0x00, 0x01, 0x02, 0x03, 0x04, 0x05, 0x06, 0x07, 0x08, 0x09, 0x0A, 0x0B, 0x0C] 0x8DE6, []) := by
  decide +kernel

theorem test_decode_updateLCD :
    decode catT [0x01, 0x06, 0x43, 0x01, 0x2D, 0x23] = .ok (.updateLCD 0x43 0x01 [] 0x232D, []) := by decide +kernel

theorem test_decode_getDeviceType : decode catT gdtFrame = .ok (.getDeviceType 0x01 0x00 [] 0xD90B, []) := by decide +kernel

theorem test_decode_nvalSet :
    decode catT [0x01, 0x07, 0x30, 0x00, 0x00, 0x57, 0xC2] = .ok (.nvalSet 0x30 0x00 [0x00] 0xC257, []) := by
  decide +kernel

theorem test_decode_buttonEvent :
    decode catT [0x01, 0x07, 0x34, 0x00, 0xAA, 0xC1, 0x4E] = .ok (.buttonEvent 0x34 0x00 [0xAA] 0x4EC1, []) := by
  decide +kernel

theorem test_decode_deviceTypeResponse :
    decode catT [0x01, 0x07, 0x02, 0x00, 0x02, 0x5F, 0xE2] = .ok (.deviceTypeResponse 0x02 0x00 [0x02] 0xE25F, []) := by
  decide +kernel

theorem test_decode_undocumented :
    decode catT [0x01, 0x09, 0xAB, 0xFF, 0x01, 0x01, 0x01, 0xCF, 0x7A] =
      .ok (.undocumented 0xAB 0xFF [0x01, 0x01, 0x01] 0x7ACF, []) := by decide +kernel

/-- The generic row stands for a catalog name without a row of its own (log 18); a rest stays. -/
theorem test_decode_frame_and_rest :
    decode [(0x26, .setRTC), (0x50, .other 3)] [0x01, 0x07, 0x50, 0x02, 0x77, 0x34, 0x12, 0xAA] =
      .ok (.frame 0x50 0x02 [0x77] 0x1234, [0xAA]) := by decide +kernel

/-- V-PAR-3, V-PAR-4, V-PAR-5: what is no frame, by name. -/
theorem test_decode_rejects :
    decode catT [] = .error .noBytes ∧ decode catT [0x81, 0x06, 0x01, 0x00, 0x0B, 0xD9] = .error .badStart ∧
      decode catT [0x01] = .error .lengthMissing ∧ decode catT [0x01, 0x05, 0x01, 0x00, 0x00] = .error .lengthBelowMinimum ∧
      decode catT [0x01, 0x06] = .error .shorterThanDeclared ∧
      decode catT (srcFrame.take 15) = .error .shorterThanDeclared := by decide +kernel

theorem test_encode_setRTC : encode (.setRTC 0x00 srcPayload 0x49FE) = some srcFrame := by decide +kernel

/-- R80's byte order: byte 0 is the most significant byte of the 32-bit header. -/
theorem test_table_word :
    decodeTableWord 32 0x01002600 = some (.setRTC 0x00 [] 0x0000) ∧ decodeTableWord 32 0x01080102 =
      some (.getDeviceType 0x01 0x02 [0x00, 0x00] 0x0000) ∧ decodeTableWord 32 0x02002600 = none ∧
      decodeTableWord 0 0 = none := by decide +kernel

/-- The step after withFetchWord runs that frame: its zero checksum is wrong, so the PARSE ends (R126). -/
theorem test_withFetchWord :
    resultsOf (step (State.reset.withFetchWord 32 0x01002600)) = onlyError .invalidChecksum := by decide +kernel

/-! ### Checksum Engine -/

/-- V-CRC-1. -/
theorem test_reflect8 :
    [0x01, 0x02, 0x10, 0x26, 0x80, 0xF0, 0xF2, 0x0C, 0xA5].map reflect8 =
      [0x80, 0x40, 0x08, 0x64, 0x01, 0x0F, 0x4F, 0x30, 0xA5] ∧ answer (.reflect8 0x26) = some [.byte 0x64] := by decide +kernel

/-- R102, T[0x00] to T[0x3F]: the spec's listing. -/
def table0 : List U16 :=
  [0x0000, 0x1021, 0x2042, 0x3063, 0x4084, 0x50A5, 0x60C6, 0x70E7] ++
  [0x8108, 0x9129, 0xA14A, 0xB16B, 0xC18C, 0xD1AD, 0xE1CE, 0xF1EF] ++
  [0x1231, 0x0210, 0x3273, 0x2252, 0x52B5, 0x4294, 0x72F7, 0x62D6] ++
  [0x9339, 0x8318, 0xB37B, 0xA35A, 0xD3BD, 0xC39C, 0xF3FF, 0xE3DE] ++
  [0x2462, 0x3443, 0x0420, 0x1401, 0x64E6, 0x74C7, 0x44A4, 0x5485] ++
  [0xA56A, 0xB54B, 0x8528, 0x9509, 0xE5EE, 0xF5CF, 0xC5AC, 0xD58D] ++
  [0x3653, 0x2672, 0x1611, 0x0630, 0x76D7, 0x66F6, 0x5695, 0x46B4] ++
  [0xB75B, 0xA77A, 0x9719, 0x8738, 0xF7DF, 0xE7FE, 0xD79D, 0xC7BC]

/-- R102, T[0x40] to T[0x7F]: the spec's listing. -/
def table1 : List U16 :=
  [0x48C4, 0x58E5, 0x6886, 0x78A7, 0x0840, 0x1861, 0x2802, 0x3823] ++
  [0xC9CC, 0xD9ED, 0xE98E, 0xF9AF, 0x8948, 0x9969, 0xA90A, 0xB92B] ++
  [0x5AF5, 0x4AD4, 0x7AB7, 0x6A96, 0x1A71, 0x0A50, 0x3A33, 0x2A12] ++
  [0xDBFD, 0xCBDC, 0xFBBF, 0xEB9E, 0x9B79, 0x8B58, 0xBB3B, 0xAB1A] ++
  [0x6CA6, 0x7C87, 0x4CE4, 0x5CC5, 0x2C22, 0x3C03, 0x0C60, 0x1C41] ++
  [0xEDAE, 0xFD8F, 0xCDEC, 0xDDCD, 0xAD2A, 0xBD0B, 0x8D68, 0x9D49] ++
  [0x7E97, 0x6EB6, 0x5ED5, 0x4EF4, 0x3E13, 0x2E32, 0x1E51, 0x0E70] ++
  [0xFF9F, 0xEFBE, 0xDFDD, 0xCFFC, 0xBF1B, 0xAF3A, 0x9F59, 0x8F78]

/-- R102, T[0x80] to T[0xBF]: the spec's listing. -/
def table2 : List U16 :=
  [0x9188, 0x81A9, 0xB1CA, 0xA1EB, 0xD10C, 0xC12D, 0xF14E, 0xE16F] ++
  [0x1080, 0x00A1, 0x30C2, 0x20E3, 0x5004, 0x4025, 0x7046, 0x6067] ++
  [0x83B9, 0x9398, 0xA3FB, 0xB3DA, 0xC33D, 0xD31C, 0xE37F, 0xF35E] ++
  [0x02B1, 0x1290, 0x22F3, 0x32D2, 0x4235, 0x5214, 0x6277, 0x7256] ++
  [0xB5EA, 0xA5CB, 0x95A8, 0x8589, 0xF56E, 0xE54F, 0xD52C, 0xC50D] ++
  [0x34E2, 0x24C3, 0x14A0, 0x0481, 0x7466, 0x6447, 0x5424, 0x4405] ++
  [0xA7DB, 0xB7FA, 0x8799, 0x97B8, 0xE75F, 0xF77E, 0xC71D, 0xD73C] ++
  [0x26D3, 0x36F2, 0x0691, 0x16B0, 0x6657, 0x7676, 0x4615, 0x5634]

/-- R102, T[0xC0] to T[0xFF]: the spec's listing. -/
def table3 : List U16 :=
  [0xD94C, 0xC96D, 0xF90E, 0xE92F, 0x99C8, 0x89E9, 0xB98A, 0xA9AB] ++
  [0x5844, 0x4865, 0x7806, 0x6827, 0x18C0, 0x08E1, 0x3882, 0x28A3] ++
  [0xCB7D, 0xDB5C, 0xEB3F, 0xFB1E, 0x8BF9, 0x9BD8, 0xABBB, 0xBB9A] ++
  [0x4A75, 0x5A54, 0x6A37, 0x7A16, 0x0AF1, 0x1AD0, 0x2AB3, 0x3A92] ++
  [0xFD2E, 0xED0F, 0xDD6C, 0xCD4D, 0xBDAA, 0xAD8B, 0x9DE8, 0x8DC9] ++
  [0x7C26, 0x6C07, 0x5C64, 0x4C45, 0x3CA2, 0x2C83, 0x1CE0, 0x0CC1] ++
  [0xEF1F, 0xFF3E, 0xCF5D, 0xDF7C, 0xAF9B, 0xBFBA, 0x8FD9, 0x9FF8] ++
  [0x6E17, 0x7E36, 0x4E55, 0x5E74, 0x2E93, 0x3EB2, 0x0ED1, 0x1EF0]

theorem test_crc_table_0 : ((List.range 64).map fun i => crcTable (BitVec.ofNat 8 (0 + i))) = table0 := by
  decide +kernel

theorem test_crc_table_1 : ((List.range 64).map fun i => crcTable (BitVec.ofNat 8 (64 + i))) = table1 := by
  decide +kernel

theorem test_crc_table_2 : ((List.range 64).map fun i => crcTable (BitVec.ofNat 8 (128 + i))) = table2 := by
  decide +kernel

theorem test_crc_table_3 : ((List.range 64).map fun i => crcTable (BitVec.ofNat 8 (192 + i))) = table3 := by
  decide +kernel

/-- V-CRC-2, as an operation. -/
theorem test_crc_table_operation : answer (.crcTable 0x7F) = some [.word 0x8F78] := by decide +kernel

theorem test_crc_seed : answer .crcSeed = some [.word 0xFFFF] := by decide

/-- V-CRC-3. -/
theorem test_crc_update :
    answer (.crcUpdate 0x1234 0x56) = some [.word 0xCB9F] ∧ crcUpdate false 0x1234 0x56 = 0x3C40 ∧
      crcUpdate true 0x7078 0x10 = 0x879F ∧ crcUpdate false 0x0000 0x01 = 0x1021 := by decide +kernel

/-- V-CRC-4. -/
theorem test_checksum :
    answer (.checksum [0x31, 0x32, 0x33, 0x34, 0x35, 0x36, 0x37, 0x38, 0x39]) = some [.word 0x89F6] ∧
      checksum false [0x31, 0x32, 0x33, 0x34, 0x35, 0x36, 0x37, 0x38, 0x39] = 0x29B1 ∧ checksum true [] = 0xFFFF ∧
      checksum true [0xFF, 0xFF] = 0x0000 ∧ checksum false [0x80] = 0x7078 := by decide +kernel

/-- V-SRC-1's trace, V-CRC-5 and V-CRC-6. -/
theorem test_checksum_source_frame :
    checksum true (srcFrame.take 14) = 0x49FE ∧ checksum false (srcFrame.take 14) = 0xAE76 ∧
      crcContinue true 0x524D [0x00, 0x03] = 0x28F8 ∧ crcContinue false 0xAE76 [0xAE, 0x76] = 0x0000 := by decide +kernel

/-! ### COMPOSE -/

/-- V-SRC-10 and V-COM-1 (the defaults). -/
theorem test_compose :
    answer (.compose 0x26 0x00 srcPayload) = some [.composed (.bytes srcFrame)] ∧
      answer (.compose 0x01) = some [.composed (.bytes gdtFrame)] := by decide +kernel

/-- V-COM-8 and V-COM-6's refusal: 250 bytes do not fit; nothing is emitted. -/
theorem test_compose_refusal :
    answer (.compose 0xFF 0xFF [0xFF]) = some [.composed (.bytes [0x01, 0x07, 0xFF, 0xFF, 0xFF, 0x5A, 0x65])] ∧
      (nextOf (exec (.compose 0x00 0x00 (List.replicate 250 0)) State.reset)).map (fun s => (s.results, s.txQueue)) =
        some ([.composed .payloadTooLong], []) := by decide +kernel

/-! ### PARSE -/

/-- V-PAR-2; a chunk starts a PARSE at 0. -/
theorem test_parse_starts :
    answer (.parse []) = some [.parsed { frames := [], error := none }] ∧
      (nextOf (exec (.parse gdtFrame) State.reset)).map (fun s => (s.rxb, s.pos, s.parse)) =
        some (gdtFrame, 0, some []) := by decide +kernel

/-- V-PAR-3 to V-PAR-6. -/
theorem test_framing_errors :
    onePass [0x02, 0x06, 0x01, 0x00, 0x00, 0x00] = onlyError .invalidMessage ∧
      onePass [0x01, 0x00, 0x01, 0x00, 0x01] = onlyError .invalidMessageLengthMismatch ∧
      onePass [0x01, 0x06] = onlyError .invalidMessageLengthMismatch ∧
      onePass [0x01, 0x06, 0x01, 0x00, 0xD9, 0x0B] = onlyError .invalidChecksum := by decide +kernel

/-- V-PAR-7, first pass: on to the second frame, whose start is at 6. -/
theorem test_second_frame_follows :
    (nextOf (step (duringAsked (gdtFrame ++ [0x01, 0x06, 0x02, 0x00, 0x5F, 0xCF])))).map (fun s => (s.pos, s.parse)) =
      some (6, some [{ msgType := 0x01, optionBits := 0x00, payload := [], outcome := .handled .getDeviceType .ok }]) := by
  decide +kernel

/-- V-PAR-8 and V-PAR-21: bytes that follow and do not start with `0x01` are dropped. -/
theorem test_trailing_bytes :
    onePass ([0x01, 0x06, 0xEE, 0x00, 0x5D, 0x53] ++ [0x00, 0xFF, 0x01, 0x06]) =
        some [.parsed { frames := [{ msgType := 0xEE, optionBits := 0x00, payload := [],
                                     outcome := .notImplemented .undocumented }], error := none }] ∧
      (nextOf (step (duringAsked [0x01, 0x06, 0x01, 0x00, 0x0B, 0xD9, 0xA7, 0x24]))).map (fun s => (s.rxb, s.parse)) =
        some ([], none) := by decide +kernel

/-- V-PAR-11: a lone start byte after a frame is taken for a frame. -/
theorem test_lone_start_byte :
    onePass [0x01] = onlyError .invalidMessageLengthMismatch ∧
      (nextOf (step (duringAsked (gdtFrame ++ [0x01])))).map (fun s => s.pos) = some 6 := by decide +kernel

/-- V-PAR-17: the declared length decides. -/
theorem test_declared_length_decides :
    onePass [0x01, 0x0C, 0x01, 0x00, 0x0B, 0xD9, 0x01, 0x06, 0x02, 0x00, 0x5F, 0xCF] = onlyError .invalidChecksum := by
  decide +kernel

/-- V-CRC-9: the frame of the other setting. -/
theorem test_reflection_mismatch :
    resultsOf (step { during srcFrame with reflectIn := false }) = onlyError .invalidChecksum := by decide +kernel

/-! ### Handlers (V-HDL) and dispatch (V-DSP) -/

/-- V-HDL-1 in a frame (V-SRC-1): the layout of R201, not the source's quoted values. -/
theorem test_setRTC :
    onePass srcFrame =
        some [.parsed { frames := [{ msgType := 0x26, optionBits := 0x00, payload := srcPayload,
                                     outcome := .handled .setRTC .ok }], error := none }] ∧
      viewsOf srcFrame =
        some [some (.setRTC { year := 1010, month := 2, day := 5, weekday := 4, hour := 4, minute := 46, second := 60,
                              extension := some (1, 1) })] := by decide +kernel

/-- V-HDL-1: 8 bytes; 7 and 9 bytes are malformed. -/
theorem test_setRTC_lengths :
    (setRTCContract [0x07, 0xE6, 0x00, 0x1F, 0x0C, 0x17, 0x3B, 0x3B]).view =
        some (.setRTC { year := 2022, month := 12, day := 31, weekday := 23, hour := 23, minute := 59, second := 59,
                        extension := none }) ∧
      answer (.dispatch 0x26 0x00 (List.replicate 7 0)) =
        some [.dispatched (.handled .setRTC (.failed .malformedPayload))] ∧
      answer (.dispatch 0x26 0x00 (List.replicate 9 0)) =
        some [.dispatched (.handled .setRTC (.failed .malformedPayload))] := by decide +kernel

/-- V-OPT-3. -/
theorem test_setLED :
    viewsOf [0x01, 0x06, 0x0C, 0x01, 0x8E, 0x56] = some [some (.setLED true)] ∧ ledState 0xFE = false := by decide +kernel

/-- V-HDL-2: the byte order check. -/
theorem test_setVibrate :
    (setVibrateContract [0x01, 0x01, 0x02, 0x03, 0x04, 0x01]).view =
        some (.setVibrate { action := 1, onTime := 513, offTime := 1027, cycles := 1 }) ∧
      viewsOf [0x01, 0x0C, 0x23, 0x00, 0x01, 0xF4, 0x01, 0xF4, 0x01, 0x03, 0x45, 0xF9] =
        some [some (.setVibrate { action := 1, onTime := 500, offTime := 500, cycles := 3 })] := by
  decide +kernel

/-- V-HDL-3. -/
theorem test_enableButton :
    viewsOf [0x01, 0x0B, 0x46, 0x00, 0x01, 0x02, 0x00, 0x34, 0xAA, 0x4B, 0x47] =
        some [some (.enableButton { mode := 1, buttonId := 2, pressType := 0 } 0x34 0xAA)] ∧
      answer (.dispatch 0x46 0x00 [0x01, 0x02, 0x00, 0x35, 0xAA]) =
        some [.dispatched (.handled .enableButton (.failed (.notImplemented .unsupportedCallbackKind)))] ∧
      answer (.dispatch 0x46 0x00 [0x01, 0x02, 0x00]) =
        some [.dispatched (.handled .enableButton (.failed .malformedPayload))] := by decide +kernel

/-- V-HDL-4. -/
theorem test_disableButton :
    viewsOf [0x01, 0x09, 0x47, 0x00, 0x01, 0x02, 0x00, 0x8A, 0xDD] =
      some [some (.disableButton { mode := 1, buttonId := 2, pressType := 0 })] := by decide +kernel

/-- V-HDL-5: one row, two rows, a short second record. -/
theorem test_writeLCD :
    (writeLCDContract 0x11 [0x00, 0x01, 0x02, 0x03, 0x04, 0x05, 0x06, 0x07, 0x08, 0x09, 0x0A, 0x0B, 0x0C]).view =
        some (.writeLCD 1
          { index := 0x00, bits := [0x01, 0x02, 0x03, 0x04, 0x05, 0x06, 0x07, 0x08, 0x09, 0x0A, 0x0B, 0x0C] } none) ∧
      (writeLCDContract 0x01 ([0x05] ++ List.replicate 12 0xFF ++ [0x06] ++ List.replicate 12 0x00)).view =
        some (.writeLCD 1 { index := 0x05, bits := List.replicate 12 0xFF }
          (some { index := 0x06, bits := List.replicate 12 0x00 })) ∧
      answer (.dispatch 0x40 0x00 (List.replicate 14 0)) =
        some [.dispatched (.handled .writeLCD (.failed .malformedPayload))] := by decide +kernel

/-- V-OPT-3. -/
theorem test_updateLCD : viewsOf [0x01, 0x06, 0x43, 0x01, 0x2D, 0x23] = some [some (.updateLCD 1)] := by decide +kernel

/-- V-HDL-6 and Program 1: one COMPOSE during the dispatch, handed to the write queue. -/
theorem test_getDeviceType :
    (nextOf (step (duringAsked gdtFrame))).map (fun s => (s.txQueue, s.handlerAsks)) =
      some ([[0x01, 0x07, 0x02, 0x00, 0x02, 0x5F, 0xE2]], []) := by decide +kernel

/-- V-DSP-3: known but unsupported, as a buffer and as dispatches. -/
theorem test_known_but_unsupported :
    onePass [0x01, 0x07, 0x30, 0x00, 0x00, 0x57, 0xC2] =
        some [.parsed { frames := [{ msgType := 0x30, optionBits := 0x00, payload := [0x00],
                                     outcome := .notImplemented .nvalSet }], error := none }] ∧
      answer (.dispatch 0x34 0x00 [0xAA]) = some [.dispatched (.notImplemented .buttonEvent)] ∧
      answer (.dispatch 0x02 0x00 [0x02]) = some [.dispatched (.notImplemented .deviceTypeResponse)] := by decide +kernel

/-- V-DSP-2 and V-DSP-1. -/
theorem test_catalog :
    answer (.dispatch 0xEE 0x00 []) = some [.dispatched (.notImplemented .undocumented)] ∧
      answer (.catalogName 0x26) = some [.name .setRTC] ∧ answer (.catalogName 0xEE) = some [.name .undocumented] ∧
      answer (.catalogCode .setRTC) = some [.code (some 0x26)] ∧ catS.code .setLED = none ∧
      catS.admissible = true := by decide +kernel

/-- R205, R211: a decode failure stays one when a COMPOSE that the handler asked for is refused (R239). -/
theorem test_failure_after_refused_compose :
    let asked : State := { State.reset with handlerAsks := [[{ gdtAsk with payload := List.replicate 250 0 }]] }
    resultsOf (exec (.dispatch 0x46 0x00 [0x01, 0x02, 0x00, 0x35, 0xAA]) asked) =
        some [.composed .payloadTooLong,
          .dispatched (.handled .enableButton (.failed (.notImplemented .unsupportedCallbackKind)))] ∧
      resultsOf (exec (.dispatch 0x26 0x00 []) asked) =
        some [.composed .payloadTooLong, .dispatched (.handled .setRTC (.failed .malformedPayload))] := by decide +kernel

/-- V-DSP-5: a handler error does not end the stream. -/
theorem test_handler_error_goes_on :
    (nextOf (step (during ([0x01, 0x0B, 0x46, 0x00, 0x01, 0x02, 0x00, 0x35, 0xAA, 0xD3, 0x5C] ++ gdtFrame)))).map
        (fun s => (s.pos, s.parse.isSome, s.results)) = some (11, true, []) := by decide +kernel

/-! ### Option taps -/

/-- V-OPT-1. -/
theorem test_option_fields :
    answer (.optBit 0x10 4) = some [.bit true] ∧ answer (.optBit 0x80 7) = some [.bit true] ∧
      answer (.optBit 0x10 0) = some [.bit false] ∧ answer (.optField 0xA6 4 4) = some [.number 0xA] ∧
      answer (.optField 0xA6 1 2) = some [.number 3] ∧ answer (.optField 0x12 0 3) = some [.number 2] := by decide +kernel

theorem test_option_pack :
    answer (.optUnpack 0x81) = some [.bits ⟨true, false, false, false, false, false, false, true⟩] ∧
      answer (.optPack ⟨true, false, true, false, false, true, true, false⟩) = some [.byte 0xA6] := by decide +kernel

/-- V-OPT-2. -/
theorem test_option_taps :
    answer (.ledState 0xFE) = some [.bit false] ∧ answer (.lcdMode 0xFE) = some [.number 6] ∧
      answer (.oneRow 0x12) = some [.bit true] ∧ answer (.updMode 0x07) = some [.number 7] ∧
      answer (.twoRows 0x00 13) = some [.bit false] ∧ answer (.twoRows 0xEF 14) = some [.bit true] ∧
      answer (.twoRows 0x10 26) = some [.bit false] := by decide +kernel

/-! ### Reset, configuration, the step -/

/-- R260, R263. -/
theorem test_reset_and_cfgWrite :
    (nextOf (exec (.cfgWrite false) State.reset)).map State.reflectIn = some false ∧
      refusalOf (exec (.cfgWrite false) (during gdtFrame)) = some .transactionInProgress ∧
      faultOf (exec (.parse gdtFrame) (during gdtFrame)) = some .parseInProgress ∧
      (nextOf (exec .reset { during gdtFrame with reflectIn := false })).map (fun s => (s.reflectIn, s.parse, s.rxb)) =
        some (true, none, []) := by decide +kernel

/-- Requests wait while a PARSE runs, and start in order between transactions (R264, R275). -/
theorem test_requests :
    (nextOf (step { during srcFrame with requests := [.crcSeed] })).map (fun s => s.requests) = some [.crcSeed] ∧
      (nextOf (step { State.reset with requests := [.reflect8 0x01, .crcSeed] })).map (fun s => (s.results, s.requests)) =
        some ([.byte 0x80], [.crcSeed]) := by decide +kernel

/-! ### Witnesses: for each obligation with hypotheses, a state and operands that meet them -/

/-- The invariant after reset and at the start of a PARSE of any chunk. -/
theorem witness_inv : MachineInv State.reset ∧ ∀ b tail, MachineInv (during (b :: tail)) := by
  refine ⟨⟨by decide, fun _ => rfl, fun h => absurd rfl h, fun h => absurd rfl h, fun f h => nomatch h⟩,
    fun b tail => ⟨(by decide : catT.admissible = true), ?_, ?_, ?_, ?_⟩⟩
  · exact fun h => nomatch h
  · exact fun _ => Nat.succ_pos _
  · exact fun _ h => absurd rfl h
  · exact fun f h => nomatch h

/-- What the statements about whole operations ask of a state. -/
theorem witness_idle :
    State.reset.parse = none ∧ State.reset.resetLine = false ∧ ∀ chunk, chunkAllowed State.reset chunk :=
  ⟨rfl, rfl, fun _ _ h => nomatch h⟩

/-- Whatever the fields, the recomputed checksum is right and its complement is wrong. -/
theorem witness_checksums (t o : Byte) (p : List Byte) :
    (∃ ck, goodChecksum State.reset t o p ck) ∧ ∃ ck, ¬ goodChecksum State.reset t o p ck := by
  refine ⟨⟨_, rfl⟩, ⟨~~~(checksum true ([0x01, BitVec.ofNat 8 (p.length + 6), t, o] ++ p)), fun h => ?_⟩⟩
  have e : ∀ w : U16, ~~~w ≠ w := fun w k => by simpa using congrArg (fun v : U16 => v.getLsbD 0) k
  exact e _ h

theorem witness_CfgWriteSetsTheBitForLaterChecksums : State.reset.parse = none := rfl

theorem witness_CfgWriteInsideParseIsRefused : (during srcFrame).parse ≠ none := by decide

theorem witness_OnlyCfgWriteAndResetChangeTheConfiguration :
    ∃ u, exec .crcSeed State.reset = .next u ∧ (∀ v, Instr.crcSeed ≠ .cfgWrite v) ∧ Instr.crcSeed ≠ .reset :=
  ⟨_, rfl, nofun, nofun⟩

theorem witness_Reflect8ReversesTheBits : ∀ i, i < 8 → (0xA5 : Byte).getLsbD i = (0xA5 : Byte).getLsbD (7 - i) := by decide

theorem witness_ReflectionSettingsAgreeOnPalindromes : ∀ b ∈ ([0x00, 0xA5, 0xFF] : List Byte), reflect8 b = b := by
  decide

theorem witness_ComposeBuildsTheFrame : (List.replicate 249 (0 : Byte)).length ≤ 249 ∧ ([] : List Byte).length ≤ 249 := by
  decide +kernel

theorem witness_ComposeRefusesLongPayloads : 249 < (List.replicate 250 (0 : Byte)).length := by decide +kernel

/-- Both cases of the chunk, and a bound that the chunk just meets. -/
theorem witness_ParseStartsAtOffsetZero :
    State.reset.parse = none ∧ chunkAllowed State.reset [] ∧ chunkAllowed { State.reset with rxMax := some 6 } gdtFrame := by
  refine ⟨rfl, nofun, ?_⟩
  rintro m ⟨⟩
  decide

theorem witness_ParseIsNotStartedInsideParseNorAboveTheBound :
    (during gdtFrame).parse ≠ none ∧ ({ State.reset with rxMax := some 5 } : State).parse = none ∧ 5 < gdtFrame.length := by
  decide

theorem witness_OperationsWaitWhileAParseRuns :
    ∃ u, (during [0x02]).parse ≠ none ∧ (during [0x02]).resetLine = false ∧ step (during [0x02]) = .next u :=
  ⟨_, by decide, rfl, rfl⟩

theorem witness_BadStartByteIsInvalidMessage :
    (during [0x02]).resetLine = false ∧ (during [0x02]).parse ≠ none ∧
      (during [0x02]).rxb[(during [0x02]).pos]? = some 0x02 ∧ (0x02 : Byte) ≠ 0x01 ∧ MachineInv (during [0x02]) :=
  ⟨rfl, by decide, rfl, by decide, witness_inv.2 _ _⟩

/-- No length byte; a length of 5; a length of 6 with 5 bytes. -/
theorem witness_LengthFaultsAreLengthMismatch :
    ((during [0x01]).resetLine = false ∧ (during [0x01]).parse ≠ none ∧
        (during [0x01]).rxb[(during [0x01]).pos]? = some 0x01 ∧
        (during [0x01]).rxb.length - (during [0x01]).pos < 2) ∧
      ((during [0x01, 0x05]).rxb[(during [0x01, 0x05]).pos + 1]? = some 0x05 ∧ (0x05 : Byte).toNat < 6) ∧
      ((during [0x01, 0x06, 0, 0, 0]).rxb[(during [0x01, 0x06, 0, 0, 0]).pos + 1]? = some 0x06 ∧
        (during [0x01, 0x06, 0, 0, 0]).rxb.length - (during [0x01, 0x06, 0, 0, 0]).pos < (0x06 : Byte).toNat) := by decide

/-- V-PAR-6's wrong checksum; for every row a msgType that State.reset's catalog resolves to its name, and for every
msgType a wrong checksum. -/
theorem witness_WrongChecksumIsInvalidChecksum : ¬ goodChecksum State.reset 0x01 0x00 [] 0xD80B ∧
    (∀ t : Byte, ∃ ck, ¬ goodChecksum State.reset t 0x00 [] ck) ∧
    State.reset.catalog.name 0x26 = .setRTC ∧ State.reset.catalog.name 0x0C = .setLED ∧
    State.reset.catalog.name 0x23 = .setVibrate ∧ State.reset.catalog.name 0x46 = .enableButton ∧
    State.reset.catalog.name 0x47 = .disableButton ∧ State.reset.catalog.name 0x40 = .writeLCD ∧
    State.reset.catalog.name 0x43 = .updateLCD ∧ State.reset.catalog.name 0x01 = .getDeviceType ∧
    State.reset.catalog.name 0x30 = .nvalSet ∧ State.reset.catalog.name 0x34 = .buttonEvent ∧
    State.reset.catalog.name 0x02 = .deviceTypeResponse ∧ State.reset.catalog.name 0xEE = .undocumented := by
  refine ⟨?_, fun t => (witness_checksums t 0x00 []).2, by decide⟩
  show ¬ ((0xD80B : U16) = checksum true [0x01, 0x06, 0x01, 0x00])
  decide +kernel

/-- A msgType with a handler and one without, each with its right checksum. -/
theorem witness_AnyFrameIsDispatchedAndAccepted :
    (goodChecksum State.reset 0x26 0x00 srcPayload 0x49FE ∧ State.reset.catalog.name 0x26 ∈ handlers) ∧
      (goodChecksum State.reset 0xEE 0x00 [] 0x535D ∧ State.reset.catalog.name 0xEE ∉ handlers) := by
  refine ⟨⟨?_, by decide⟩, ⟨?_, by decide⟩⟩
  · show (0x49FE : U16) = checksum true (srcFrame.take 14)
    decide +kernel
  · show (0x535D : U16) = checksum true [0x01, 0x06, 0xEE, 0x00]
    decide +kernel

/-- A payload of 250 bytes; and a code that no labelled row but its own resolves to. -/
theorem witness_RowsRefuseForeignCodesAndLongPayloads :
    249 < (List.replicate 250 (0 : Byte)).length ∧ ({ State.reset with catalog := [] } : State).catalog.name 0x26 ≠ .setRTC ∧
      State.reset.catalog.name 0x26 ∉
        [MsgName.setLED, .setVibrate, .enableButton, .disableButton, .writeLCD, .updateLCD, .getDeviceType, .nvalSet,
          .buttonEvent, .deviceTypeResponse, .undocumented] := by decide +kernel

/-- Payloads of 7, 9, 8, 10 and 249 bytes. -/
theorem witness_SetRTCFrameIsDecodedAndDelivered :
    State.reset.catalog.name 0x26 = .setRTC ∧
      (∀ n ∈ [7, 9, 8, 10, 249], (List.replicate n (0 : Byte)).length ≤ 249) ∧
      (∀ n ∈ [7, 9], (List.replicate n (0 : Byte)).length < 8 ∨ (List.replicate n (0 : Byte)).length = 9) ∧
      (∀ n ∈ [8, 10], (List.replicate n (0 : Byte)).length = 8 ∨ 10 ≤ (List.replicate n (0 : Byte)).length) ∧
      ∀ n, ∃ ck, goodChecksum State.reset 0x26 0x00 (List.replicate n 0) ck :=
  ⟨by decide, by decide +kernel, by decide, by decide, fun _ => (witness_checksums _ _ _).1⟩

theorem witness_SetLEDFrameDeliversBitZero :
    State.reset.catalog.name 0x0C = .setLED ∧ goodChecksum State.reset 0x0C 0x01 [] 0x568E := by
  refine ⟨by decide, ?_⟩
  show (0x568E : U16) = checksum true [0x01, 0x06, 0x0C, 0x01]
  decide +kernel

/-- Payloads of 5 and 6 bytes. -/
theorem witness_SetVibrateFrameIsDecodedAndDelivered :
    State.reset.catalog.name 0x23 = .setVibrate ∧ (List.replicate 5 (0 : Byte)).length < 6 ∧
      6 ≤ (List.replicate 6 (0 : Byte)).length ∧ ∀ n, ∃ ck, goodChecksum State.reset 0x23 0x00 (List.replicate n 0) ck :=
  ⟨by decide, by decide, by decide, fun _ => (witness_checksums _ _ _).1⟩

/-- Payloads of 4 and 5 bytes, the callback kind 0x34 and another. -/
theorem witness_EnableButtonFrameChecksTheCallbackKind :
    State.reset.catalog.name 0x46 = .enableButton ∧ (List.replicate 4 (0 : Byte)).length < 5 ∧
      5 ≤ ([0x01, 0x02, 0x00, 0x34, 0xAA] : List Byte).length ∧
      ([0x01, 0x02, 0x00, 0x34, 0xAA] : List Byte).getD 3 0 = 0x34 ∧
      ([0x01, 0x02, 0x00, 0x35, 0xAA] : List Byte).getD 3 0 ≠ 0x34 ∧
      ∀ p, ∃ ck, goodChecksum State.reset 0x46 0x00 p ck :=
  ⟨by decide, by decide, by decide, by decide, by decide, fun _ => (witness_checksums _ _ _).1⟩

/-- Payloads of 2 and 3 bytes. -/
theorem witness_DisableButtonFrameIsDecodedAndDelivered :
    State.reset.catalog.name 0x47 = .disableButton ∧ (List.replicate 2 (0 : Byte)).length < 3 ∧
      3 ≤ (List.replicate 3 (0 : Byte)).length ∧ ∀ p, ∃ ck, goodChecksum State.reset 0x47 0x00 p ck :=
  ⟨by decide, by decide, by decide, fun _ => (witness_checksums _ _ _).1⟩

/-- Payloads of 12, 14 and 25 bytes (malformed), 13 bytes and 14 with bit 4 set (one row), 26 bytes (two rows). -/
theorem witness_WriteLCDFrameDeliversOneOrTwoRows :
    State.reset.catalog.name 0x40 = .writeLCD ∧
      (∀ n ∈ [12, 14, 25], n < 13 ∨ ((0x00 : Byte).toNat / 16 % 2 = 0 ∧ 13 < n ∧ n < 26)) ∧
      (∀ n ∈ [13, 14], n = 13 ∨ ((0x10 : Byte).toNat / 16 % 2 = 1 ∧ 13 < n)) ∧
      ((0x00 : Byte).toNat / 16 % 2 = 0 ∧ 26 ≤ (List.replicate 26 (0 : Byte)).length) ∧
      (∀ n ∈ [12, 13, 14, 25, 26], (List.replicate n (0 : Byte)).length = n) ∧
      ∀ o p, ∃ ck, goodChecksum State.reset 0x40 o p ck :=
  ⟨by decide, by decide, by decide, by decide, by decide, fun _ _ => (witness_checksums _ _ _).1⟩

theorem witness_UpdateLCDFrameDeliversTheMode :
    State.reset.catalog.name 0x43 = .updateLCD ∧ goodChecksum State.reset 0x43 0x01 [] 0x232D := by
  refine ⟨by decide, ?_⟩
  show (0x232D : U16) = checksum true [0x01, 0x06, 0x43, 0x01]
  decide +kernel

theorem witness_GetDeviceTypeFrameTriggersOneCompose :
    State.reset.catalog.name 0x01 = .getDeviceType ∧ goodChecksum State.reset 0x01 0x00 [] 0xD90B := by
  refine ⟨by decide, ?_⟩
  show (0xD90B : U16) = checksum true [0x01, 0x06, 0x01, 0x00]
  decide +kernel

theorem witness_KnownButUnsupportedMessagesAreNotImplemented :
    State.reset.catalog.name 0x30 = .nvalSet ∧ State.reset.catalog.name 0x34 = .buttonEvent ∧
      State.reset.catalog.name 0x02 = .deviceTypeResponse ∧
      ({ State.reset with catalog := [(0x26, .setRTC), (0x50, .other 0)] } : State).catalog.name 0x50 = .other 0 ∧
      goodChecksum State.reset 0x34 0x00 [0xAA] 0x4EC1 ∧ ∀ t, ∃ ck, goodChecksum State.reset t 0x00 [] ck := by
  refine ⟨by decide, by decide, by decide, by decide, ?_, fun _ => (witness_checksums _ _ _).1⟩
  show (0x4EC1 : U16) = checksum true [0x01, 0x07, 0x34, 0x00, 0xAA]
  decide +kernel

theorem witness_UnknownCodesNameTheSentinel :
    (∀ e ∈ State.reset.catalog, e.1 ≠ 0xEE) ∧ goodChecksum State.reset 0xEE 0x00 [] 0x535D :=
  ⟨by decide, witness_AnyFrameIsDispatchedAndAccepted.2.1⟩

/-- The bounds of both clauses. -/
theorem witness_OptFieldReadsAnyField :
    (1 ≤ 8 ∧ 0 + 8 ≤ 8) ∧ (1 ≤ 1 ∧ 7 + 1 ≤ 8) ∧ ((0 = 0) ∨ 8 < 0 + 0) ∧ (2 = 0 ∨ 8 < 7 + 2) := by decide

theorem witness_CatalogNameIsTheEntryOrTheSentinel :
    (∀ e ∈ State.reset.catalog, e.1 ≠ 0xEE) ∧ (State.reset.catalog.map Prod.fst).Nodup ∧
      ((0x26, .setRTC) : Byte × MsgName) ∈ State.reset.catalog := by decide

theorem witness_CatalogCodeInvertsCatalogName :
    MsgName.setRTC ≠ .undocumented ∧ State.reset.catalog.admissible = true := by decide

theorem witness_DispatchSelectsTheArmByName :
    State.reset.catalog.name 0x01 ∈ handlers ∧ State.reset.catalog.name 0x30 ∉ handlers := by decide

/-- The eight names with a handler and their msgTypes in State.reset's catalog. -/
def handledCodes : List (Byte × MsgName) :=
  [(0x26, .setRTC), (0x0C, .setLED), (0x23, .setVibrate), (0x46, .enableButton), (0x47, .disableButton), (0x40, .writeLCD),
    (0x43, .updateLCD), (0x01, .getDeviceType)]

/-- For each of the eight names a msgType, and for each clause payload lengths at its bounds. -/
theorem witness_HandlerOutcomesFollowTheContracts :
    (∀ q ∈ handledCodes, State.reset.catalog.name q.1 = q.2 ∧ q.2 ∈ handlers) ∧
      (∀ k ∈ [2, 3, 4, 5, 6, 7, 8, 9, 10, 12, 13, 14, 25, 26], (List.replicate k (0 : Byte)).length = k) ∧
      ([0x01, 0x02, 0x00, 0x34, 0xAA] : List Byte).getD 3 0 = 0x34 ∧
      ([0x01, 0x02, 0x00, 0x35, 0xAA] : List Byte).getD 3 0 ≠ 0x34 ∧
      (0x00 : Byte).toNat / 16 % 2 = 0 ∧ (0x10 : Byte).toNat / 16 % 2 = 1 ∧ AllFit [] ∧ AllFit [gdtAsk] := by
  refine ⟨by decide, by decide, by decide, by decide, by decide, by decide, fun _ h => (nomatch h), ?_⟩
  intro r hr
  rw [List.mem_singleton.mp hr]
  decide

/-- For each of the eight names a msgType; the lengths at the bounds of the clauses stand above. -/
theorem witness_DispatchHandsTheDecodedFieldsToItsHandler :
    ∀ q ∈ handledCodes, State.reset.catalog.name q.1 = q.2 ∧ q.2 ∈ handlers := by decide

/-- An accepted length, a decoded instruction: V-SRC-1 at the cursor. -/
theorem witness_StepRunsTheFrameAtTheCursor :
    (during srcFrame).resetLine = false ∧ (during srcFrame).parse ≠ none ∧
      decode (during srcFrame).catalog ((during srcFrame).rxb.drop (during srcFrame).pos) =
        .ok (.setRTC 0x00 srcPayload 0x49FE, []) := ⟨rfl, by decide, test_decode_setRTC⟩

theorem witness_StepStartsWaitingOperationsAndServesReset :
    (∃ s : State, s.resetLine = false ∧ s.parse = none ∧ s.requests = [.crcSeed]) ∧
      (State.reset.resetLine = false ∧ State.reset.parse = none ∧ State.reset.requests = []) ∧
      ({ State.reset with resetLine := true } : State).resetLine = true :=
  ⟨⟨{ State.reset with requests := [.crcSeed] }, rfl, rfl, rfl⟩, ⟨rfl, rfl, rfl⟩, rfl⟩

theorem witness_EveryStepGoesOn :
    MachineInv State.reset ∧ (∀ i ∈ State.reset.requests, i.wf State.reset.catalog = true) ∧
      ∀ chunk, .parse chunk ∈ State.reset.requests → chunkAllowed State.reset chunk :=
  ⟨witness_inv.1, fun _ h => (nomatch h), fun _ _ => witness_idle.2.2 _⟩

theorem witness_EveryStepKeepsTheInvariant : MachineInv State.reset ∧ step State.reset = .next State.reset :=
  ⟨witness_inv.1, rfl⟩

/-- Two states that differ in a latch, in `TXB` and in the idle cursor. -/
theorem witness_LatchesAreNeverObserved :
    ∃ s' : State, s' ≠ State.reset ∧ MachineInv State.reset ∧ MachineInv s' ∧ State.reset.observed = s'.observed :=
  ⟨{ State.reset.setCrc 5 with txb := [1], pos := 7 }, by decide, witness_inv.1,
    ⟨by decide, fun _ => rfl, fun h => absurd rfl h, fun h => absurd rfl h, fun f h => nomatch h⟩, rfl⟩

theorem witness_DecodeOfEncodeIsTheInstruction :
    Instr.wf catT (.setRTC 0x00 srcPayload 0x49FE) = true ∧ encode (.setRTC 0x00 srcPayload 0x49FE) = some srcFrame := by
  decide +kernel

theorem witness_DecodedBytesAreAnEncoding :
    decode catT (gdtFrame ++ [0xAA]) = .ok (.getDeviceType 0x01 0x00 [] 0xD90B, [0xAA]) := by decide +kernel

/-- An empty chunk and another, with `witness_idle`; and a chunk at the bound. -/
theorem witness_ParsePassesRefineTheNormativeLoop :
    chunkAllowed State.reset [] ∧ chunkAllowed { State.reset with rxMax := some 6 } gdtFrame :=
  witness_ParseStartsAtOffsetZero.2

/-- With `witness_idle`: the longest payload. -/
theorem witness_ParseOfComposeDeliversTheTriple : (List.replicate 249 (0 : Byte)).length ≤ 249 := by decide +kernel

/-- With `witness_idle`: V-COM-1 and V-SRC-10. -/
theorem witness_ConcatenatedFramesAreDeliveredInOrder :
    composeValue State.reset.reflectIn { msgType := 0x01, optionBits := 0x00, payload := [] } = .bytes gdtFrame ∧
      composeValue State.reset.reflectIn { msgType := 0x26, optionBits := 0x00, payload := srcPayload } = .bytes srcFrame := by
  decide +kernel

/-- With `witness_idle`: offset 0; offset 1 with a length of 5 and of 17, and lowered to 6 and to 15 (V-PAR-10); offset 2;
the last offset. -/
theorem witness_SingleByteCorruptionByOffset :
    composeValue State.reset.reflectIn { msgType := 0x26, optionBits := 0x00, payload := srcPayload } = .bytes srcFrame ∧
      srcFrame[0]? ≠ some 0x02 ∧ srcFrame[1]? ≠ some 0x05 ∧ (0x05 : Byte).toNat < 6 ∧ srcFrame[1]? ≠ some 0x11 ∧
      srcFrame.length < (0x11 : Byte).toNat ∧ srcFrame[2]? ≠ some 0x27 ∧ srcFrame[15]? ≠ some 0x48 ∧
      15 < srcFrame.length ∧
      ∀ b ∈ [(0x06 : Byte), 0x0F], srcFrame[1]? ≠ some b ∧ 6 ≤ b.toNat ∧ b.toNat < srcFrame.length ∧
        (checksum State.reset.reflectIn ((srcFrame.set 1 b).take (b.toNat - 2))).toNat ≠
          (srcFrame.getD (b.toNat - 2) 0).toNat + 256 * (srcFrame.getD (b.toNat - 1) 0).toNat := by decide +kernel

/-- V-PAR-21: the coincidence that R131 allows, a corrupted length byte that delivers a frame. -/
theorem test_coincidence_at_offset_one :
    (checksum true (([0x01, 0x08, 0x01, 0x00, 0x0B, 0xD9, 0xA7, 0x24].set 1 (0x06 : Byte)).take 4)).toNat =
      (0x0B : Byte).toNat + 256 * (0xD9 : Byte).toNat := by decide +kernel

/-- With `witness_idle`: the first byte alone, and all but the last. -/
theorem witness_SplitFrameIsLost :
    composeValue State.reset.reflectIn { msgType := 0x26, optionBits := 0x00, payload := srcPayload } = .bytes srcFrame ∧
      0 < 1 ∧ 1 < srcFrame.length ∧ 15 < srcFrame.length := by decide +kernel

/-- With `witness_idle`: V-PAR-8. -/
theorem witness_TrailingBytesAreDropped :
    composeValue State.reset.reflectIn { msgType := 0x01, optionBits := 0x00, payload := [] } = .bytes gdtFrame ∧
      (0x00 : Byte) ≠ 0x01 := by decide +kernel

end Sys2Proof.Tests
end

section
/-! Progress of the step (O47). The layers: what a successful fetch says of the buffer, that a decoded row is well
formed, that an admitted instruction's meaning answers a next state, and the step by its cases. -/

namespace Sys2Proof.Machine

/-! ### The decoder -/

/-- The whole decode of a frame: start byte, length byte, both length checks, then the fields (R122 to R125). -/
theorem decode_ok_inv {cat : Catalog} {B rest : List Byte} {i : Instr} (h : decode cat B = .ok (i, rest)) :
    ∃ len tail, B = Config.startByte :: len :: tail ∧ 6 ≤ len.toNat ∧ len.toNat ≤ B.length ∧
      i = fieldsOf cat (B.take len.toNat) len.toNat ∧ rest = B.drop len.toNat := by
  match B with
  | [] => cases h
  | start :: afterStart =>
    simp only [decode] at h
    split at h
    · cases h
    next hstart =>
      match afterStart with
      | [] => cases h
      | len :: tail =>
        simp only at h
        split at h
        · cases h
        next hmin =>
          split at h
          · cases h
          next hlong =>
            cases h
            exact ⟨len, tail, by rw [not_not.mp hstart], not_lt.mp hmin, not_lt.mp hlong, rfl, rfl⟩

/-- The decoder misses the first byte only where there is none. -/
theorem decode_cons_ne_noBytes (cat : Catalog) (b : Byte) (B : List Byte) : decode cat (b :: B) ≠ .error .noBytes := by
  simp only [decode]
  split
  · nofun
  · cases B with
    | nil => nofun
    | cons len tail => dsimp only; split_ifs <;> nofun

theorem slice_length_le (B : List Byte) (i j : Nat) : (slice B i j).length ≤ j - i := by
  simp only [slice, List.length_drop, List.length_take]
  omega

/-- The row chosen for a frame passes that row's check as soon as its payload fits (R73, R75). -/
theorem frameRow_wf {cat : Catalog} (t o : Byte) {p : List Byte} (ck : U16) (hp : payloadFits p = true) :
    (frameRow cat t o p ck).wf cat = true := by
  cases hn : cat.name t with
  | setRTC =>
    by_cases ht : t = Config.codeSetRTC
    · subst ht; simp [frameRow, hn, Instr.wf, hp]
    · simp [frameRow, hn, Instr.wf, hp, ht]
  | other id => simp [frameRow, hn, Instr.wf, hp, MsgName.isOther]
  | _ => simp [frameRow, hn, Instr.wf, hp]

/-- A decoded frame is one of the catalog's rows, with a payload that the length byte can declare. -/
theorem decode_ok_frameRow {cat : Catalog} {B rest : List Byte} {i : Instr} (h : decode cat B = .ok (i, rest)) :
    ∃ t o p ck, payloadFits p = true ∧ i = frameRow cat t o p ck := by
  obtain ⟨len, tail, -, -, -, hi, -⟩ := decode_ok_inv h
  have hslice := slice_length_le (B.take len.toNat) 4 (len.toNat - 2)
  have hbyte := len.isLt
  exact ⟨_, _, _, _, (payloadFits_iff _).mpr (by omega), hi⟩

/-! ### The meanings -/

/-- What an instruction needs of the state beyond its own operands: a PARSE and a CFG.WRITE start between transactions
only (R263, R264), and a PARSE takes an allowed chunk (R24). -/
def Admitted (s : State) : Instr → Prop
  | .parse chunk => s.parse = none ∧ chunkAllowed s chunk
  | .cfgWrite _ => s.parse = none
  | _ => True

/-- A frame row starts nothing of its own, so it is admitted inside a PARSE. -/
theorem admitted_frameRow (s : State) (cat : Catalog) (t o : Byte) (p : List Byte) (ck : U16) :
    Admitted s (frameRow cat t o p ck) := by
  cases hn : cat.name t with
  | setRTC =>
    by_cases ht : t = Config.codeSetRTC
    · subst ht; simp [frameRow, hn, Admitted]
    · simp [frameRow, hn, ht, Admitted]
  | _ => simp [frameRow, hn, Admitted]

theorem chunkFits_iff (s : State) (chunk : List Byte) : s.chunkFits chunk = true ↔ chunkAllowed s chunk := by
  unfold State.chunkFits chunkAllowed
  cases s.rxMax <;> simp

/-- A frame is received whatever its checksum (R126). -/
theorem receive_next (s : State) (t o : Byte) (p : List Byte) (ck : U16) (arm : State → State × DispatchOutcome) :
    ∃ u, s.receive t o p ck arm = .next u := by
  by_cases h : goodChecksum s t o p ck
  · exact ⟨_, receive_good arm h⟩
  · obtain ⟨u, hu, -⟩ := receive_bad arm h
    exact ⟨u, hu⟩

/-- A labelled row's well-formedness check is the one its reception makes. -/
theorem receiveAs_next {s : State} {n : MsgName} {t : Byte} {p : List Byte} (o : Byte) (ck : U16)
    (arm : State → State × DispatchOutcome) (h : (payloadFits p && decide (s.catalog.name t = n)) = true) :
    ∃ u, s.receiveAs n t o p ck arm = .next u := by
  obtain ⟨hp, hn⟩ := Bool.and_eq_true_iff.mp h
  rw [receiveAs_eq o ck arm ((payloadFits_iff p).mp hp) (of_decide_eq_true hn)]
  exact receive_next s t o p ck arm

theorem execParse_next {s : State} {chunk : List Byte} (hidle : s.parse = none) (h : chunkAllowed s chunk) :
    ∃ u, execParse chunk s = .next u := by
  rw [execParse, hidle, (chunkFits_iff s chunk).mpr h]
  cases chunk with
  | nil => exact ⟨_, rfl⟩
  | cons b tail => exact ⟨_, rfl⟩

/-- A well-formed instruction that the state admits has a next state: no other fault or refusal is left (R238). -/
theorem exec_next {s : State} {i : Instr} (hwf : i.wf s.catalog = true) (hadm : Admitted s i) :
    ∃ u, exec i s = .next u := by
  cases i with
  | frame t o p ck =>
    obtain ⟨hp, -⟩ := Bool.and_eq_true_iff.mp hwf
    obtain ⟨u, hu⟩ := receive_next s t o p ck fun u => u.dispatch t o p
    exact ⟨u, (if_pos hp).trans hu⟩
  | setRTC | setLED | setVibrate | enableButton | disableButton | writeLCD | updateLCD | getDeviceType | nvalSet
  | buttonEvent | deviceTypeResponse | undocumented => exact receiveAs_next _ _ _ hwf
  | parse chunk =>
    obtain ⟨hidle, hchunk⟩ := hadm
    exact execParse_next hidle hchunk
  | cfgWrite v =>
    have hidle : ¬ s.parse.isSome := by rw [show s.parse = none from hadm]; nofun
    exact ⟨_, if_neg hidle⟩
  | optField o lo w =>
    obtain ⟨hw, hlo⟩ := Bool.and_eq_true_iff.mp hwf
    exact ⟨_, if_pos ⟨of_decide_eq_true hw, of_decide_eq_true hlo⟩⟩
  | catalogCode n => exact ⟨_, if_neg (of_decide_eq_true hwf)⟩
  | reflect8 | crcTable | crcSeed | crcUpdate | checksum | compose | optUnpack | optPack | optBit | ledState | lcdMode
  | oneRow | twoRows | updMode | catalogName | dispatch | reset => exact ⟨_, rfl⟩

/-! ### The step -/

theorem step_resetLine {s : State} (h : s.resetLine = true) : step s = exec .reset { s with resetLine := false } :=
  if_pos h

theorem step_fetch_ok {s : State} {i : Instr} {rest : List Byte} (hr : s.resetLine = false) (hp : s.parse ≠ none)
    (hf : s.fetch = .ok (i, rest)) : step s = exec i s := by
  obtain ⟨rs, hrs⟩ := Option.ne_none_iff_exists'.mp hp
  simp [step, hr, hrs, hf]

theorem step_fetch_error {s : State} {e : DecodeError} (hr : s.resetLine = false) (hp : s.parse ≠ none)
    (hf : s.fetch = .error e) : step s = s.rejectFrame e := by
  obtain ⟨rs, hrs⟩ := Option.ne_none_iff_exists'.mp hp
  simp [step, hr, hrs, hf]

theorem step_idle_nil {s : State} (hr : s.resetLine = false) (hp : s.parse = none) (hq : s.requests = []) :
    step s = .next s := by
  simp [step, hr, hp, hq]

theorem step_idle_cons {s : State} {i : Instr} {more : List Instr} (hr : s.resetLine = false) (hp : s.parse = none)
    (hq : s.requests = i :: more) : step s = exec i { s with requests := more } := by
  simp [step, hr, hp, hq]

/-- A failed fetch with at least one byte at the cursor is a framing error, and the PARSE ends (R231, R232, R236). -/
theorem rejectFrame_next (s : State) {e : DecodeError} (h : e ≠ .noBytes) : ∃ u, s.rejectFrame e = .next u := by
  cases e with
  | noBytes => exact absurd rfl h
  | badStart | lengthMissing | lengthBelowMinimum | shorterThanDeclared => exact ⟨_, rfl⟩

/-- With the cursor inside the buffer, a fetch never finds it empty (R27). -/
theorem fetch_ne_noBytes {s : State} (h : s.pos < s.rxb.length) : s.fetch ≠ .error .noBytes := by
  rw [State.fetch, State.rest, List.drop_eq_getElem_cons h]
  exact decode_cons_ne_noBytes _ _ _

/-- Each pass of R130's loop answers a next state: the fetched row is well formed, and a failed fetch is a framing
error. -/
theorem step_inParse_next {s : State} (hr : s.resetLine = false) (hp : s.parse ≠ none) (hpos : s.pos < s.rxb.length) :
    ∃ u, step s = .next u := by
  cases hf : s.fetch with
  | ok fetched =>
    obtain ⟨i, rest⟩ := fetched
    obtain ⟨t, o, p, ck, hfits, rfl⟩ := decode_ok_frameRow hf
    rw [step_fetch_ok hr hp hf]
    exact exec_next (frameRow_wf t o ck hfits) (admitted_frameRow s s.catalog t o p ck)
  | error e =>
    rw [step_fetch_error hr hp hf]
    exact rejectFrame_next s fun he => fetch_ne_noBytes hpos (he ▸ hf)

/-- A waiting operation that is well formed, and a chunk that is allowed, is admitted between transactions. -/
theorem admitted_of_idle {s : State} {i : Instr} (hp : s.parse = none)
    (hchunk : ∀ chunk, i = .parse chunk → chunkAllowed s chunk) : Admitted s i := by
  cases i with
  | parse chunk => exact ⟨hp, hchunk chunk rfl⟩
  | cfgWrite v => exact hp
  | _ => exact trivial

/-- Settles O47: a reset completes, a pass of a PARSE goes on by the invariant's cursor, and a waiting operation is
admitted because no PARSE is in progress. -/
theorem everyStepGoesOn : Obligations.EveryStepGoesOn := by
  intro s hinv hwf hchunks
  cases hr : s.resetLine with
  | true => exact ⟨_, step_resetLine hr⟩
  | false =>
    by_cases hp : s.parse = none
    · cases hq : s.requests with
      | nil => exact ⟨s, step_idle_nil hr hp hq⟩
      | cons i more =>
        have hi : i ∈ s.requests := hq ▸ List.mem_cons_self
        have hadm : Admitted s i := admitted_of_idle hp fun chunk he => hchunks chunk (he ▸ hi)
        rw [step_idle_cons hr hp hq]
        exact exec_next (s := { s with requests := more }) (hwf i hi) hadm
    · exact step_inParse_next hr hp (hinv.cursorInside hp)

end Sys2Proof.Machine
end

section
/-! The invariant and the configuration (O48, O5, O1, O49). The layers: how the invariant passes from one state to
another, what emitting frames leaves unchanged, one inversion of `exec` by its effects, then the step. -/

namespace Sys2Proof.Machine

/-! ### Passing the invariant on -/

/-- The invariant reads the catalog, the buffer, the cursor, the PARSE in progress and the write queue, and nothing
else. -/
theorem MachineInv.transfer {s u : State} (hinv : MachineInv s) (hcat : u.catalog = s.catalog) (hpos : u.pos = s.pos)
    (hrxb : u.rxb = s.rxb) (hparse : u.parse = s.parse) (hqueue : ∀ f ∈ u.txQueue, framed f) : MachineInv u where
  catalogAdmissible := hcat ▸ hinv.catalogAdmissible
  idleEmpty := by rw [hparse, hrxb]; exact hinv.idleEmpty
  cursorInside := by rw [hparse, hpos, hrxb]; exact hinv.cursorInside
  cursorAtStart := by rw [hparse, hpos, hrxb]; exact hinv.cursorAtStart
  queueFramed := hqueue

/-- Between transactions the cursor is unconstrained (R27). -/
theorem MachineInv.of_idle {u : State} (hcat : u.catalog.admissible = true) (hparse : u.parse = none)
    (hrxb : u.rxb = []) (hqueue : ∀ f ∈ u.txQueue, framed f) : MachineInv u where
  catalogAdmissible := hcat
  idleEmpty := fun _ => hrxb
  cursorInside := fun h => absurd hparse h
  cursorAtStart := fun h => absurd hparse h
  queueFramed := hqueue

/-- A chunk starts with the cursor at 0, inside it (R121). -/
theorem MachineInv.startParse {s : State} (hinv : MachineInv s) (b : Byte) (tail : List Byte) :
    MachineInv (s.startParse (b :: tail)) where
  catalogAdmissible := hinv.catalogAdmissible
  idleEmpty := nofun
  cursorInside := fun _ => Nat.succ_pos _
  cursorAtStart := fun _ h => absurd rfl h
  queueFramed := hinv.queueFramed

theorem MachineInv.endedWith {s u : State} {e : ProtocolError} (hinv : MachineInv s) (h : EndedWith s e u) :
    MachineInv u :=
  .of_idle (h.setting.catalog ▸ hinv.catalogAdmissible) h.parse h.rxb (h.txQueue ▸ hinv.queueFramed)

/-- The cursor moves on only to a start byte inside the buffer (R128); otherwise the PARSE ends (R129). -/
theorem MachineInv.acceptRecord {s : State} (hinv : MachineInv s) (L : Nat) (r : FrameRecord) :
    MachineInv (s.acceptRecord L r) := by
  rcases acceptRecord_cases s L r with ⟨⟨hmore, hstart⟩, he⟩ | ⟨-, he⟩
  · rw [he]
    exact ⟨hinv.catalogAdmissible, nofun, fun _ => Nat.add_lt_of_lt_sub' hmore, fun _ _ => hstart, hinv.queueFramed⟩
  · rw [he]
    exact .of_idle hinv.catalogAdmissible rfl rfl hinv.queueFramed

/-! ### Emitting frames -/

/-- What every operation that neither starts, moves nor ends a PARSE and writes no setting can do: append frames of the
format to the write queue, and anything to the latches, `TXB` and the boundary's records. -/
structure Emits (s u : State) : Prop where
  setting : SameSetting s u
  pos : u.pos = s.pos
  rxb : u.rxb = s.rxb
  parse : u.parse = s.parse
  txQueue : ∃ frames, u.txQueue = s.txQueue ++ frames ∧ ∀ f ∈ frames, framed f

/-- Nothing emitted: the case of an operation that writes only latches, results or boundary records. -/
theorem Emits.of_same_queue {s u : State} (hset : SameSetting s u) (hpos : u.pos = s.pos) (hrxb : u.rxb = s.rxb)
    (hparse : u.parse = s.parse) (hqueue : u.txQueue = s.txQueue) : Emits s u :=
  ⟨hset, hpos, hrxb, hparse, [], by rw [hqueue, List.append_nil], nofun⟩

theorem Emits.refl (s : State) : Emits s s := .of_same_queue (.refl s) rfl rfl rfl rfl

theorem Emits.trans {s t u : State} (h : Emits s t) (k : Emits t u) : Emits s u := by
  obtain ⟨fs, hq, hf⟩ := h.txQueue
  obtain ⟨gs, kq, kf⟩ := k.txQueue
  refine ⟨h.setting.trans k.setting, k.pos.trans h.pos, k.rxb.trans h.rxb, k.parse.trans h.parse, fs ++ gs, ?_, ?_⟩
  · rw [kq, hq, List.append_assoc]
  · exact List.forall_mem_append.mpr ⟨hf, kf⟩

theorem emits_setCrc (s : State) (v : U16) : Emits s (s.setCrc v) :=
  .of_same_queue ⟨rfl, rfl, rfl, rfl, rfl⟩ rfl rfl rfl rfl

theorem emits_returns (s : State) (r : OpResult) : Emits s (s.returns r) :=
  .of_same_queue ⟨rfl, rfl, rfl, rfl, rfl⟩ rfl rfl rfl rfl

theorem emits_latchFrame (s : State) (t o : Byte) (p : List Byte) (ck : U16) : Emits s (s.latchFrame t o p ck) :=
  .of_same_queue ⟨rfl, rfl, rfl, rfl, rfl⟩ rfl rfl rfl rfl

theorem emits_handOver (s : State) (call : HandlerCall) : Emits s (s.handOver call) :=
  .of_same_queue ⟨rfl, rfl, rfl, rfl, rfl⟩ rfl rfl rfl rfl

/-- COMPOSE puts only frames of the format on the write queue (R153). -/
theorem composedFrames_framed (reflectIn : Bool) (asks : List ComposeRequest) :
    ∀ f ∈ composedFrames reflectIn asks, framed f := by
  intro f hf
  obtain ⟨r, -, hr⟩ := List.mem_filterMap.mp hf
  by_cases hfits : r.payload.length ≤ 249
  · rw [composeValue_fits hfits] at hr
    cases hr
    exact Laws.FrameShape.framed_frameBytes _ _ _ _ ((payloadFits_iff _).mpr hfits)
  · rw [composeValue_tooLong (not_le.mp hfits)] at hr
    cases hr

theorem Composed.emits {s u : State} {asks : List ComposeRequest} (h : Composed s asks u) : Emits s u :=
  ⟨h.setting, h.pos, h.rxb, h.parse, _, h.txQueue, composedFrames_framed _ _⟩

theorem runHandler_emits (n : MsgName) (c : Contract) (o : Byte) (p : List Byte) (s : State) :
    Emits s (s.runHandler n c o p).1 :=
  (emits_handOver s _).trans (runHandler_spec s n c o p).1.emits

theorem dispatch_emits (t o : Byte) (p : List Byte) (s : State) : Emits s (s.dispatch t o p).1 := by
  rw [dispatch_eq]
  cases contractOf (s.catalog.name t) o p with
  | some c => exact runHandler_emits _ c o p s
  | none => exact .refl s

theorem MachineInv.emits {s u : State} (hinv : MachineInv s) (h : Emits s u) : MachineInv u := by
  obtain ⟨frames, hq, hframed⟩ := h.txQueue
  refine hinv.transfer h.setting.catalog h.pos h.rxb h.parse ?_
  rw [hq]
  exact List.forall_mem_append.mpr ⟨hinv.queueFramed, hframed⟩

theorem acceptRecord_setting (s : State) (L : Nat) (r : FrameRecord) : SameSetting s (s.acceptRecord L r) := by
  rcases acceptRecord_cases s L r with ⟨-, he⟩ | ⟨-, he⟩ <;> rw [he] <;> exact ⟨rfl, rfl, rfl, rfl, rfl⟩

/-! ### The effects of an instruction -/

/-- What an instruction that goes on can do to the state, by what it does to the PARSE in progress and to the
configuration. -/
inductive Effect (s : State) : Instr → State → Prop
  /-- It leaves both as they are. -/
  | emitted {i : Instr} {u : State} (h : Emits s u) : Effect s i u
  /-- A frame is accepted, after the dispatcher's arm has run (R127 to R129). -/
  | accepted {i : Instr} {v : State} (h : Emits s v) (L : Nat) (r : FrameRecord) : Effect s i (v.acceptRecord L r)
  /-- The PARSE ends with a framing error (R236). -/
  | ended {i : Instr} {u : State} {e : ProtocolError} (h : EndedWith s e u) : Effect s i u
  /-- A PARSE starts on a chunk that has a byte (R121). -/
  | started (b : Byte) (tail : List Byte) : Effect s (.parse (b :: tail)) (s.startParse (b :: tail))
  /-- CFG.WRITE (R263). -/
  | configured (v : Bool) : Effect s (.cfgWrite v) { s with reflectIn := v }
  /-- RESET (R260). -/
  | restored {u : State} (h : execReset s = .next u) : Effect s .reset u

/-- A reception, whatever the instruction that asks for it: a wrong checksum ends the PARSE, a right one is accepted
after the arm (R126, R127). -/
theorem receive_effect {i : Instr} {s u : State} {t o : Byte} {p : List Byte} {ck : U16}
    {arm : State → State × DispatchOutcome} (harm : ∀ w, Emits w (arm w).1) (h : s.receive t o p ck arm = .next u) :
    Effect s i u := by
  by_cases hck : goodChecksum s t o p ck
  · rw [receive_good arm hck] at h
    cases h
    exact .accepted (((emits_latchFrame s t o p ck).trans (emits_setCrc _ ck)).trans (harm _)) _ _
  · obtain ⟨v, hv, hended⟩ := receive_bad arm hck
    rw [hv] at h
    cases h
    exact .ended hended

theorem receiveAs_effect {i : Instr} {s u : State} {n : MsgName} {t o : Byte} {p : List Byte} {ck : U16}
    {arm : State → State × DispatchOutcome} (harm : ∀ w, Emits w (arm w).1)
    (h : s.receiveAs n t o p ck arm = .next u) : Effect s i u := by
  by_cases hrow : p.length ≤ 249 ∧ s.catalog.name t = n
  · obtain ⟨hp, hn⟩ := hrow
    exact receive_effect harm (receiveAs_eq o ck arm hp hn ▸ h)
  · rw [receiveAs_refused o ck arm hrow] at h
    cases h

theorem execFrame_effect {i : Instr} {s u : State} {t o : Byte} {p : List Byte} {ck : U16}
    (h : execFrame t o p ck s = .next u) : Effect s i u := by
  unfold execFrame at h
  split at h
  · exact receive_effect (dispatch_emits t o p) h
  · cases h

theorem execParse_effect {s u : State} {chunk : List Byte} (h : execParse chunk s = .next u) :
    Effect s (.parse chunk) u := by
  unfold execParse at h
  split at h
  · cases h
  · split at h
    · cases h
    · cases chunk with
      | nil => cases h; exact .emitted (emits_returns s _)
      | cons b tail => cases h; exact .started b tail

/-- Every instruction that goes on has one of the effects. -/
theorem exec_effect {i : Instr} {s u : State} (h : exec i s = .next u) : Effect s i u := by
  cases i with
  | frame => exact execFrame_effect h
  | setRTC | setLED | setVibrate | enableButton | disableButton | writeLCD | updateLCD | getDeviceType =>
    exact receiveAs_effect (runHandler_emits _ _ _ _) h
  | nvalSet | buttonEvent | deviceTypeResponse | undocumented => exact receiveAs_effect Emits.refl h
  | parse => exact execParse_effect h
  | compose => cases h; exact .emitted (compose_spec s _).emits
  | dispatch t o p => cases h; exact .emitted ((dispatch_emits t o p s).trans (emits_returns _ _))
  | crcSeed | crcUpdate | checksum => cases h; exact .emitted ((emits_setCrc s _).trans (emits_returns _ _))
  | reflect8 | crcTable | optUnpack | optPack | optBit | ledState | lcdMode | oneRow | twoRows | updMode
  | catalogName => cases h; exact .emitted (emits_returns s _)
  | optField =>
    simp only [exec, execOptField] at h
    split at h
    · cases h; exact .emitted (emits_returns s _)
    · cases h
  | catalogCode =>
    simp only [exec, execCatalogCode] at h
    split at h
    · cases h
    · cases h; exact .emitted (emits_returns s _)
  | reset => exact .restored h
  | cfgWrite v =>
    simp only [exec, execCfgWrite] at h
    split at h
    · cases h
    · cases h; exact .configured v

/-- Of the effects, only those of CFG.WRITE and RESET do not keep the whole setting. -/
theorem exec_setting_cases {i : Instr} {s u : State} (h : exec i s = .next u) :
    SameSetting s u ∨ (∃ v, i = .cfgWrite v ∧ u = { s with reflectIn := v }) ∨ (i = .reset ∧ execReset s = .next u) := by
  cases exec_effect h with
  | emitted hem => exact .inl hem.setting
  | accepted hem L r => exact .inl (hem.setting.trans (acceptRecord_setting _ L r))
  | ended hend => exact .inl hend.setting
  | started b tail => exact .inl ⟨rfl, rfl, rfl, rfl, rfl⟩
  | configured v => exact .inr (.inl ⟨v, rfl, rfl⟩)
  | restored hres => exact .inr (.inr ⟨rfl, hres⟩)

/-- Settles O5: CFG.WRITE writes the configuration bit alone, and RESET writes it and nothing else of the setting. -/
theorem onlyCfgWriteAndResetChangeTheConfiguration : Obligations.OnlyCfgWriteAndResetChangeTheConfiguration := by
  intro i s u h
  obtain hset | ⟨v, rfl, rfl⟩ | ⟨rfl, hres⟩ := exec_setting_cases h
  · exact ⟨hset.catalog, hset.rxMax, hset.resetLine, hset.requests, fun _ _ => hset.reflectIn⟩
  · exact ⟨rfl, rfl, rfl, rfl, fun hno _ => absurd rfl (hno v)⟩
  · cases hres
    exact ⟨rfl, rfl, rfl, rfl, fun _ hno => absurd rfl hno⟩

/-! ### The invariant -/

theorem exec_keeps_inv {i : Instr} {s u : State} (hinv : MachineInv s) (h : exec i s = .next u) : MachineInv u := by
  cases exec_effect h with
  | emitted hem => exact hinv.emits hem
  | accepted hem L r => exact (hinv.emits hem).acceptRecord L r
  | ended hend => exact hinv.endedWith hend
  | started b tail => exact hinv.startParse b tail
  | configured v => exact hinv.transfer rfl rfl rfl rfl hinv.queueFramed
  | restored hres => cases hres; exact .of_idle hinv.catalogAdmissible rfl rfl hinv.queueFramed

/-- A failed fetch that does not stop the machine ends the PARSE with its framing error (R231, R232, R236). -/
theorem rejectFrame_endedWith {s u : State} {e : DecodeError} (h : s.rejectFrame e = .next u) :
    ∃ x, EndedWith s x u := by
  cases e with
  | noBytes => cases h
  | badStart | lengthMissing => cases h; exact ⟨_, takeError_spec s _⟩
  | lengthBelowMinimum | shorterThanDeclared => cases h; exact ⟨_, latchLength_takeError_spec s _⟩

/-- Settles O48: whatever a step runs keeps the invariant, and taking a reset request or a waiting operation from the
boundary touches nothing that the invariant reads. -/
theorem everyStepKeepsTheInvariant : Obligations.EveryStepKeepsTheInvariant := by
  intro s u hinv h
  cases hr : s.resetLine with
  | true =>
    rw [step_resetLine hr] at h
    refine exec_keeps_inv ?_ h
    exact hinv.transfer rfl rfl rfl rfl hinv.queueFramed
  | false =>
    by_cases hp : s.parse = none
    · cases hq : s.requests with
      | nil =>
        rw [step_idle_nil hr hp hq] at h
        cases h
        exact hinv
      | cons i more =>
        rw [step_idle_cons hr hp hq] at h
        refine exec_keeps_inv ?_ h
        exact hinv.transfer rfl rfl rfl rfl hinv.queueFramed
    · cases hf : s.fetch with
      | ok fetched =>
        rw [step_fetch_ok hr hp hf] at h
        exact exec_keeps_inv hinv h
      | error e =>
        rw [step_fetch_error hr hp hf] at h
        obtain ⟨x, hended⟩ := rejectFrame_endedWith h
        exact hinv.endedWith hended

/-- Settles O49: nothing is in progress after reset, and the catalog of log 3 is admissible. -/
theorem resetStateMeetsTheInvariant : Obligations.ResetStateMeetsTheInvariant :=
  .of_idle (by decide) rfl rfl nofun

/-- Settles O1: the rows of R33 that give a value. -/
theorem resetStateHoldsTheSpecValues : Obligations.ResetStateHoldsTheSpecValues := ⟨rfl, rfl, rfl, rfl⟩

end Sys2Proof.Machine
end

section
/-! Noninterference (O50). Two states are alike when an observer cannot tell them apart and `RXB` is empty between
transactions; each operation takes alike states to alike states. Blanking the latches, `TXB` and the idle cursor
commutes with every update by computation, so each rule is an image of the equation it starts from. -/

namespace Sys2Proof.Machine

/-- Two states that an observer cannot tell apart, with the buffer empty when no PARSE is in progress (R20, R24). -/
structure Alike (s s' : State) : Prop where
  observed : s.observed = s'.observed
  idleEmpty : s.parse = none → s.rxb = []

/-! ### What alike states share -/

/-- Whatever a blanked state still shows is the same in alike states. -/
theorem Alike.get {α : Type} {s s' : State} (h : Alike s s') (read : State → α)
    (hread : ∀ u, read u.observed = read u) : read s = read s' := by
  rw [← hread s, h.observed, hread s']

theorem Alike.catalog {s s' : State} (h : Alike s s') : s.catalog = s'.catalog := h.get State.catalog fun _ => rfl

theorem Alike.rxMax {s s' : State} (h : Alike s s') : s.rxMax = s'.rxMax := h.get State.rxMax fun _ => rfl

theorem Alike.reflectIn {s s' : State} (h : Alike s s') : s.reflectIn = s'.reflectIn :=
  h.get State.reflectIn fun _ => rfl

theorem Alike.rxb {s s' : State} (h : Alike s s') : s.rxb = s'.rxb := h.get State.rxb fun _ => rfl

theorem Alike.parse {s s' : State} (h : Alike s s') : s.parse = s'.parse := h.get State.parse fun _ => rfl

theorem Alike.resetLine {s s' : State} (h : Alike s s') : s.resetLine = s'.resetLine :=
  h.get State.resetLine fun _ => rfl

theorem Alike.requests {s s' : State} (h : Alike s s') : s.requests = s'.requests := h.get State.requests fun _ => rfl

theorem Alike.handlerAsks {s s' : State} (h : Alike s s') : s.handlerAsks = s'.handlerAsks :=
  h.get State.handlerAsks fun _ => rfl

theorem Alike.freeIndex {s s' : State} (h : Alike s s') : s.freeIndex = s'.freeIndex :=
  h.get State.freeIndex fun _ => rfl

theorem Alike.records {s s' : State} (h : Alike s s') : s.records = s'.records := h.get State.records fun _ => rfl

/-- During a PARSE the cursor is observed. -/
theorem observed_pos {s : State} (hp : s.parse ≠ none) : s.observed.pos = s.pos :=
  if_pos (Option.isSome_iff_ne_none.mpr hp)

theorem Alike.pos {s s' : State} (h : Alike s s') (hp : s.parse ≠ none) : s.pos = s'.pos := by
  rw [← observed_pos hp, h.observed, observed_pos (h.parse ▸ hp)]

theorem Alike.asks {s s' : State} (h : Alike s s') (n : MsgName) : s.asks n = s'.asks n := by
  unfold State.asks
  rw [h.handlerAsks, h.freeIndex]

theorem Alike.chunkFits {s s' : State} (h : Alike s s') (chunk : List Byte) :
    s.chunkFits chunk = s'.chunkFits chunk := by
  unfold State.chunkFits
  rw [h.rxMax]

theorem anotherFollows_of_empty {s : State} (h : s.rxb = []) (L : Nat) : s.anotherFollows L = false := by
  simp [State.anotherFollows, h]

/-- Where no PARSE is in progress there is no byte to follow, wherever the cursor is (R24, R128). -/
theorem Alike.anotherFollows {s s' : State} (h : Alike s s') (L : Nat) : s.anotherFollows L = s'.anotherFollows L := by
  by_cases hp : s.parse = none
  · have hempty := h.idleEmpty hp
    rw [anotherFollows_of_empty hempty, anotherFollows_of_empty (h.rxb ▸ hempty)]
  · unfold State.anotherFollows
    rw [h.rxb, h.pos hp]

/-- The frame at the cursor is the same (R50). -/
theorem Alike.fetch {s s' : State} (h : Alike s s') (hp : s.parse ≠ none) : s.fetch = s'.fetch := by
  unfold State.fetch State.rest
  rw [h.catalog, h.rxb, h.pos hp]

/-! ### Updates of alike states -/

theorem Alike.returns {s s' : State} (h : Alike s s') (r : OpResult) : Alike (s.returns r) (s'.returns r) :=
  ⟨congrArg (State.returns · r) h.observed, h.idleEmpty⟩

theorem Alike.setCrc {s s' : State} (h : Alike s s') (v v' : U16) : Alike (s.setCrc v) (s'.setCrc v') :=
  ⟨h.observed, h.idleEmpty⟩

theorem Alike.setLen {s s' : State} (h : Alike s s') (v v' : Byte) : Alike (s.setLen v) (s'.setLen v') :=
  ⟨h.observed, h.idleEmpty⟩

theorem Alike.latchFrame {s s' : State} (h : Alike s s') (t o : Byte) (p : List Byte) (ck : U16) :
    Alike (s.latchFrame t o p ck) (s'.latchFrame t o p ck) :=
  ⟨h.observed, h.idleEmpty⟩

theorem Alike.handOver {s s' : State} (h : Alike s s') (call : HandlerCall) :
    Alike (s.handOver call) (s'.handOver call) :=
  ⟨congrArg (State.handOver · call) h.observed, h.idleEmpty⟩

theorem Alike.takeRequest {s s' : State} (h : Alike s s') (more : List Instr) :
    Alike { s with requests := more } { s' with requests := more } :=
  ⟨congrArg (fun u => { u with requests := more }) h.observed, h.idleEmpty⟩

theorem Alike.takeReset {s s' : State} (h : Alike s s') :
    Alike { s with resetLine := false } { s' with resetLine := false } :=
  ⟨congrArg (fun u => { u with resetLine := false }) h.observed, h.idleEmpty⟩

theorem Alike.compose {s s' : State} (h : Alike s s') (r : ComposeRequest) : Alike (s.compose r) (s'.compose r) := by
  unfold State.compose
  rw [← h.reflectIn]
  cases composeValue s.reflectIn r with
  | payloadTooLong => exact h.returns _
  | bytes f =>
    refine Alike.returns ⟨?_, ?_⟩ _
    · exact congrArg (fun u => { u with txQueue := u.txQueue ++ [f] }) h.observed
    · exact h.idleEmpty

theorem Alike.composeAll {s s' : State} (h : Alike s s') (asks : List ComposeRequest) :
    Alike (s.composeAll asks) (s'.composeAll asks) := by
  induction asks generalizing s s' with
  | nil => exact h
  | cons r rest ih => exact ih (h.compose r)

/-! ### The dispatcher's arms -/

/-- An arm of the dispatcher that takes alike states to alike states and one outcome. -/
def ArmAlike (arm : State → State × DispatchOutcome) : Prop :=
  ∀ s s', Alike s s' → Alike (arm s).1 (arm s').1 ∧ (arm s).2 = (arm s').2

theorem armAlike_default (n : MsgName) : ArmAlike fun u => (u, .notImplemented n) := fun _ _ h => ⟨h, rfl⟩

theorem armAlike_runHandler (n : MsgName) (c : Contract) (o : Byte) (p : List Byte) :
    ArmAlike fun u => u.runHandler n c o p := by
  intro s s' h
  unfold State.runHandler
  dsimp only
  rw [← h.asks, ← h.freeIndex]
  exact ⟨(h.handOver _).composeAll _, rfl⟩

theorem armAlike_dispatch (t o : Byte) (p : List Byte) : ArmAlike fun u => u.dispatch t o p := by
  intro s s' h
  simp only [dispatch_eq, ← h.catalog]
  cases contractOf (s.catalog.name t) o p with
  | some c => exact armAlike_runHandler _ c o p s s' h
  | none => exact armAlike_default _ s s' h

/-! ### The end of a PARSE and the reception of a frame -/

theorem Alike.endParse {s s' : State} (h : Alike s s') (e : Option ProtocolError) :
    (s.endParse e).observed = (s'.endParse e).observed :=
  congrArg (fun u => { u.endParse e with pos := 0 }) h.observed

theorem Alike.takeError {s s' : State} (h : Alike s s') (e : ProtocolError) :
    (s.takeError e).observed = (s'.takeError e).observed :=
  h.endParse (some e)

theorem Alike.acceptRecord {s s' : State} (h : Alike s s') (L : Nat) (r : FrameRecord) :
    (s.acceptRecord L r).observed = (s'.acceptRecord L r).observed := by
  unfold State.acceptRecord
  rw [← h.anotherFollows, ← h.records]
  split
  next hmore =>
    have hp : s.parse ≠ none := fun hp => by simp [anotherFollows_of_empty (h.idleEmpty hp)] at hmore
    rw [h.pos hp]
    exact congrArg (fun u => { u with pos := s'.pos + L, parse := some (s.records ++ [r]) }) h.observed
  next =>
    exact congrArg (fun u => { ({ u with parse := some (s.records ++ [r]) } : State).endParse none with pos := 0 })
      h.observed

theorem Alike.receive {s s' : State} (h : Alike s s') {arm : State → State × DispatchOutcome} (harm : ArmAlike arm)
    (t o : Byte) (p : List Byte) (ck : U16) : sameOutcome (s.receive t o p ck arm) (s'.receive t o p ck arm) := by
  unfold State.receive
  rw [← h.reflectIn]
  obtain ⟨hstate, hout⟩ := harm _ _ ((h.latchFrame t o p ck).setCrc _ _)
  dsimp only
  split
  · rw [hout]
    exact hstate.acceptRecord _ _
  · exact ((h.latchFrame t o p ck).setCrc _ _).takeError _

theorem Alike.receiveAs {s s' : State} (h : Alike s s') {arm : State → State × DispatchOutcome} (harm : ArmAlike arm)
    (n : MsgName) (t o : Byte) (p : List Byte) (ck : U16) :
    sameOutcome (s.receiveAs n t o p ck arm) (s'.receiveAs n t o p ck arm) := by
  unfold State.receiveAs
  rw [← h.catalog]
  split
  · exact h.receive harm t o p ck
  · rfl

theorem Alike.execFrame {s s' : State} (h : Alike s s') (t o : Byte) (p : List Byte) (ck : U16) :
    sameOutcome (execFrame t o p ck s) (execFrame t o p ck s') := by
  unfold Machine.execFrame
  split
  · exact h.receive (armAlike_dispatch t o p) t o p ck
  · rfl

theorem Alike.rejectFrame {s s' : State} (h : Alike s s') (e : DecodeError) :
    sameOutcome (s.rejectFrame e) (s'.rejectFrame e) := by
  cases e with
  | noBytes => rfl
  | badStart | lengthMissing => exact h.takeError _
  | lengthBelowMinimum | shorterThanDeclared => exact (h.setLen _ _).takeError _

/-! ### The operations -/

theorem Alike.startParse {s s' : State} (h : Alike s s') (chunk : List Byte) :
    (s.startParse chunk).observed = (s'.startParse chunk).observed :=
  congrArg (State.startParse · chunk) h.observed

theorem Alike.execParse {s s' : State} (h : Alike s s') (chunk : List Byte) :
    sameOutcome (execParse chunk s) (execParse chunk s') := by
  unfold Machine.execParse
  rw [← h.parse, ← h.chunkFits]
  split_ifs
  · rfl
  · rfl
  · exact (h.returns _).observed
  · exact h.startParse chunk

theorem Alike.execDispatch {s s' : State} (h : Alike s s') (t o : Byte) (p : List Byte) :
    sameOutcome (execDispatch t o p s) (execDispatch t o p s') := by
  obtain ⟨hstate, hout⟩ := armAlike_dispatch t o p s s' h
  unfold Machine.execDispatch
  rw [← hout]
  exact (hstate.returns _).observed

/-- RESET draws the same free values in alike states (R260). -/
theorem Alike.execReset {s s' : State} (h : Alike s s') : sameOutcome (execReset s) (execReset s') :=
  (congrArg (fun u : State =>
    { u with reflectIn := true, pos := 0, rxb := [], parse := none, freeIndex := u.freeIndex + 3 }) h.observed :)

theorem Alike.execCfgWrite {s s' : State} (h : Alike s s') (v : Bool) :
    sameOutcome (execCfgWrite v s) (execCfgWrite v s') := by
  unfold Machine.execCfgWrite
  by_cases hp : s.parse.isSome = true
  · rw [if_pos hp, if_pos (h.parse ▸ hp)]
    rfl
  · rw [if_neg hp, if_neg (h.parse ▸ hp)]
    exact congrArg (fun u => { u with reflectIn := v }) h.observed

/-- An operation of the checksum engine writes `CRC`, which is not observed, and returns a value that depends on the
configuration bit alone. -/
theorem Alike.setCrc_returns {s s' : State} (h : Alike s s') (f : Bool → U16) :
    ((s.setCrc (f s.reflectIn)).returns (.word (f s.reflectIn))).observed =
      ((s'.setCrc (f s'.reflectIn)).returns (.word (f s'.reflectIn))).observed := by
  rw [← h.reflectIn]
  exact ((h.setCrc _ _).returns _).observed

/-- No instruction's outcome depends on what is not observed. -/
theorem exec_sameOutcome {s s' : State} (h : Alike s s') (i : Instr) : sameOutcome (exec i s) (exec i s') := by
  cases i with
  | frame => exact h.execFrame _ _ _ _
  | setRTC | setLED | setVibrate | enableButton | disableButton | writeLCD | updateLCD | getDeviceType =>
    exact h.receiveAs (armAlike_runHandler _ _ _ _) _ _ _ _ _
  | nvalSet | buttonEvent | deviceTypeResponse | undocumented => exact h.receiveAs (armAlike_default _) _ _ _ _ _
  | parse chunk => exact h.execParse chunk
  | compose => exact (h.compose _).observed
  | dispatch t o p => exact h.execDispatch t o p
  | crcSeed => exact h.setCrc_returns fun _ => Config.crcSeed
  | crcUpdate c b => exact h.setCrc_returns fun reflectIn => crcUpdate reflectIn c b
  | checksum d => exact h.setCrc_returns fun reflectIn => checksum reflectIn d
  | reflect8 | crcTable | optUnpack | optPack | optBit | ledState | lcdMode | oneRow | twoRows | updMode =>
    exact (h.returns _).observed
  | optField o lo w =>
    simp only [exec, execOptField]
    split
    · exact (h.returns _).observed
    · rfl
  | catalogName c =>
    simp only [exec, execCatalogName, ← h.catalog]
    exact (h.returns _).observed
  | catalogCode n =>
    simp only [exec, execCatalogCode, ← h.catalog]
    split
    · rfl
    · exact (h.returns _).observed
  | reset => exact h.execReset
  | cfgWrite v => exact h.execCfgWrite v

/-- Settles O50: two states that meet the invariant and look alike run the same instruction, or report the same framing
error, from states that look alike. -/
theorem latchesAreNeverObserved : Obligations.LatchesAreNeverObserved := by
  intro s s' hinv _ hobs
  have h : Alike s s' := ⟨hobs, hinv.idleEmpty⟩
  cases hr : s.resetLine with
  | true =>
    rw [step_resetLine hr, step_resetLine (h.resetLine ▸ hr)]
    exact exec_sameOutcome h.takeReset .reset
  | false =>
    have hr' : s'.resetLine = false := h.resetLine ▸ hr
    by_cases hp : s.parse = none
    · have hp' : s'.parse = none := h.parse ▸ hp
      cases hq : s.requests with
      | nil =>
        rw [step_idle_nil hr hp hq, step_idle_nil hr' hp' (h.requests ▸ hq)]
        exact hobs
      | cons i more =>
        rw [step_idle_cons hr hp hq, step_idle_cons hr' hp' (h.requests ▸ hq)]
        exact exec_sameOutcome (h.takeRequest more) i
    · have hp' : s'.parse ≠ none := h.parse ▸ hp
      cases hf : s.fetch with
      | ok fetched =>
        rw [step_fetch_ok hr hp hf, step_fetch_ok hr' hp' (h.fetch hp ▸ hf)]
        exact exec_sameOutcome h _
      | error e =>
        rw [step_fetch_error hr hp hf, step_fetch_error hr' hp' (h.fetch hp ▸ hf)]
        exact h.rejectFrame e

end Sys2Proof.Machine
end

section
/-! The frame format and its rows (O52, O53, O24, O35, O25, O51). The layers: the two bytes of a word, the fields of a
frame, one characterization of the decoder, the encoder by rows, and that every row means what the generic row means. -/

namespace Sys2Proof.Machine

/-! ### Words on the wire (R54) -/

@[simp] theorem u16le_lo8_hi8 (v : U16) : u16le (lo8 v) (hi8 v) = v :=
  (BitVec.extractLsb'_append_extractLsb'_eq_extractLsb' (start₁ := 0) (len₁ := 8) (len₂ := 8) rfl).trans
    BitVec.extractLsb'_eq_self

@[simp] theorem lo8_u16le (lo hi : Byte) : lo8 (u16le lo hi) = lo := BitVec.extractLsb'_append_eq_right

@[simp] theorem hi8_u16le (lo hi : Byte) : hi8 (u16le lo hi) = hi := BitVec.extractLsb'_append_eq_left

theorem byteAt_append_right (A B : List Byte) (k : Nat) : byteAt (A ++ B) (A.length + k) = byteAt B k := by
  rw [byteAt, byteAt, List.getD_append_right _ _ _ _ (Nat.le_add_right _ _), Nat.add_sub_cancel_left]

/-- The word behind a sequence is read back from where the sequence ends (R12). -/
theorem memRead2_appendWord (A : List Byte) (v : U16) : memRead2 (appendWord A v) A.length = v :=
  calc memRead2 (appendWord A v) A.length
      _ = u16le (byteAt [lo8 v, hi8 v] 0) (byteAt [lo8 v, hi8 v] 1) :=
        congrArg₂ u16le (byteAt_append_right A _ 0) (byteAt_append_right A _ 1)
      _ = v := u16le_lo8_hi8 v

/-! ### The fields of a frame (R70, R72) -/

/-- The payload lies between the four header bytes and the checksum. -/
theorem slice_frameBytes (t o : Byte) (p : List Byte) (ck : U16) :
    slice (frameBytes t o p ck) 4 (p.length + 4) = p :=
  congrArg (List.drop 4) (List.take_left (l₁ := headBytes t o p))

theorem memRead2_frameBytes (t o : Byte) (p : List Byte) (ck : U16) :
    memRead2 (frameBytes t o p ck) (p.length + 4) = ck :=
  memRead2_appendWord (headBytes t o p) ck

/-- The fields at their offsets in a frame are the ones it was built from (R125). -/
theorem fieldsOf_frameBytes (cat : Catalog) (t o : Byte) (p : List Byte) (ck : U16) :
    fieldsOf cat (frameBytes t o p ck) (p.length + 6) = frameRow cat t o p ck := by
  change frameRow cat t o (slice _ 4 (p.length + 4)) (memRead2 _ (p.length + 4)) = _
  rw [slice_frameBytes, memRead2_frameBytes]

/-- The length byte of a payload that fits declares the whole frame (R73). -/
theorem lengthByte_toNat {p : List Byte} (hp : payloadFits p = true) :
    (BitVec.ofNat 8 (p.length + Config.overhead)).toNat = p.length + 6 := by
  have hlen : p.length ≤ 249 := (payloadFits_iff p).mp hp
  rw [BitVec.toNat_ofNat, Config.overhead]
  omega

theorem exists_eq_append_pair {B : List Byte} (h : 2 ≤ B.length) : ∃ p lo hi, B = p ++ [lo, hi] := by
  have htwo : (B.drop (B.length - 2)).length = 2 := by rw [List.length_drop]; omega
  obtain ⟨lo, hi, hlast⟩ := List.length_eq_two.mp htwo
  exact ⟨B.take (B.length - 2), lo, hi, by rw [← hlast, List.take_append_drop]⟩

/-- A start byte and a length byte that declares the sequence's own length, at least 6, make a frame (R70, R77): the
payload is what lies between the header and the last two bytes. -/
theorem eq_frameBytes_of_length {len : Byte} {tail : List Byte} (hmin : 6 ≤ len.toNat)
    (hlen : tail.length + 2 = len.toNat) :
    ∃ t o p ck, payloadFits p = true ∧ Config.startByte :: len :: tail = frameBytes t o p ck := by
  match tail with
  | [] | [_] => simp at hlen; omega
  | t :: o :: body =>
    simp only [List.length_cons] at hlen
    obtain ⟨p, lo, hi, rfl⟩ := exists_eq_append_pair (B := body) (by omega)
    have hsum : len.toNat = p.length + 6 := by simp at hlen; omega
    have hp : payloadFits p = true := (payloadFits_iff p).mpr (by have := len.isLt; omega)
    have hlenByte : BitVec.ofNat 8 (p.length + Config.overhead) = len :=
      BitVec.eq_of_toNat_eq ((lengthByte_toNat hp).trans hsum.symm)
    exact ⟨t, o, p, u16le lo hi, hp, by simp [frameBytes, appendWord, headBytes, hlenByte]⟩

/-! ### The decoder and the encoder -/

/-- A sequence that passes the start and length checks is cut off at its declared length, and its fields are read
(R122 to R125). -/
theorem decode_append {len : Byte} {tail : List Byte} (cat : Catalog) (rest : List Byte) (hmin : 6 ≤ len.toNat)
    (hlen : tail.length + 2 = len.toNat) :
    decode cat (Config.startByte :: len :: tail ++ rest) =
      .ok (fieldsOf cat (Config.startByte :: len :: tail) len.toNat, rest) := by
  have hmin' : ¬ len.toNat < Config.minFrame := Nat.not_lt.mpr hmin
  have hlong : ¬ (Config.startByte :: len :: tail ++ rest).length < len.toNat := by simp; omega
  have htake : (Config.startByte :: len :: tail ++ rest).take len.toNat = Config.startByte :: len :: tail :=
    List.take_left' hlen
  have hdrop : (Config.startByte :: len :: tail ++ rest).drop len.toNat = rest := List.drop_left' hlen
  have hdecode : decode cat (Config.startByte :: len :: tail ++ rest) =
      .ok (fieldsOf cat ((Config.startByte :: len :: tail ++ rest).take len.toNat) len.toNat,
        (Config.startByte :: len :: tail ++ rest).drop len.toNat) := by
    rw [List.cons_append, List.cons_append] at hlong ⊢
    simp only [decode, ne_eq, not_true_eq_false, if_false, if_neg hmin', if_neg hlong]
  rw [hdecode, htake, hdrop]

/-- A frame decodes to its row, whatever follows it. -/
theorem decode_frameBytes_append (cat : Catalog) (t o : Byte) {p : List Byte} (ck : U16) (rest : List Byte)
    (hp : payloadFits p = true) :
    decode cat (frameBytes t o p ck ++ rest) = .ok (frameRow cat t o p ck, rest) := by
  have hlen := lengthByte_toNat hp
  rw [← fieldsOf_frameBytes, ← hlen]
  exact decode_append (tail := t :: o :: (p ++ [lo8 ck, hi8 ck])) cat rest (by omega) (by rw [hlen]; simp)

/-- The decoder accepts exactly the frames, each with any bytes after it (R70, R77). -/
theorem decode_eq_ok_iff (cat : Catalog) (B rest : List Byte) (i : Instr) :
    decode cat B = .ok (i, rest) ↔
      ∃ t o p ck, payloadFits p = true ∧ i = frameRow cat t o p ck ∧ B = frameBytes t o p ck ++ rest := by
  constructor
  · intro h
    obtain ⟨len, tail, rfl, hmin, hlong, -, hrest⟩ := decode_ok_inv h
    obtain ⟨n, hn⟩ := Nat.exists_eq_add_of_le' (Nat.le_trans (by decide : 2 ≤ 6) hmin)
    have hcut : (tail.take n).length + 2 = len.toNat := by
      rw [hn] at hlong ⊢
      simp at hlong
      simp [hlong]
    obtain ⟨t, o, p, ck, hp, hframe⟩ := eq_frameBytes_of_length hmin hcut
    have hB : Config.startByte :: len :: tail = frameBytes t o p ck ++ rest := by
      rw [← hframe, hrest, hn]
      simp
    rw [hB, decode_frameBytes_append cat t o ck rest hp] at h
    cases h
    exact ⟨t, o, p, ck, hp, rfl, hB⟩
  · rintro ⟨t, o, p, ck, hp, rfl, rfl⟩
    exact decode_frameBytes_append cat t o ck rest hp

theorem encode_frameRow (cat : Catalog) (t o : Byte) (p : List Byte) (ck : U16) :
    encode (frameRow cat t o p ck) = some (frameBytes t o p ck) := by
  cases hn : cat.name t with
  | setRTC =>
    by_cases ht : t = Config.codeSetRTC
    · subst ht; simp [frameRow, hn, encode]
    · simp [frameRow, hn, ht, encode]
  | _ => simp [frameRow, hn, encode]

theorem frameRow_of_isOther {cat : Catalog} {t : Byte} (o : Byte) (p : List Byte) (ck : U16)
    (h : (cat.name t).isOther = true) : frameRow cat t o p ck = .frame t o p ck := by
  cases hn : cat.name t with
  | other id => simp [frameRow, hn]
  | _ => simp [hn, MsgName.isOther] at h

/-- A well-formed instruction with an encoding is the row that the catalog chooses for its fields (R75). -/
theorem eq_frameRow_of_encode {cat : Catalog} {i : Instr} {bytes : List Byte} (hwf : i.wf cat = true)
    (he : encode i = some bytes) : ∃ t o p ck, payloadFits p = true ∧ i = frameRow cat t o p ck := by
  cases i with
  | frame t o p ck =>
    obtain ⟨hp, hname⟩ := Bool.and_eq_true_iff.mp hwf
    refine ⟨t, o, p, ck, hp, ?_⟩
    cases Bool.or_eq_true_iff.mp hname with
    | inl hother => exact (frameRow_of_isOther o p ck hother).symm
    | inr hforeign =>
      obtain ⟨hn, ht⟩ := Bool.and_eq_true_iff.mp hforeign
      simp [frameRow, of_decide_eq_true hn, of_decide_eq_true ht]
  | setRTC o p ck =>
    obtain ⟨hp, hn⟩ := Bool.and_eq_true_iff.mp hwf
    exact ⟨Config.codeSetRTC, o, p, ck, hp, by simp [frameRow, of_decide_eq_true hn]⟩
  | setLED t o p ck | setVibrate t o p ck | enableButton t o p ck | disableButton t o p ck | writeLCD t o p ck
  | updateLCD t o p ck | getDeviceType t o p ck | nvalSet t o p ck | buttonEvent t o p ck | deviceTypeResponse t o p ck
  | undocumented t o p ck =>
    obtain ⟨hp, hn⟩ := Bool.and_eq_true_iff.mp hwf
    exact ⟨t, o, p, ck, hp, by simp [frameRow, of_decide_eq_true hn]⟩
  | _ => cases he

/-- Settles O52: a well-formed instruction with an encoding is the row of its frame, and frames decode to their rows. -/
theorem decodeOfEncodeIsTheInstruction : Obligations.DecodeOfEncodeIsTheInstruction := by
  intro cat i bytes rest hwf he
  obtain ⟨t, o, p, ck, hp, rfl⟩ := eq_frameRow_of_encode hwf he
  obtain rfl : frameBytes t o p ck = bytes := Option.some.inj ((encode_frameRow cat t o p ck).symm.trans he)
  exact decode_frameBytes_append cat t o ck rest hp

/-- Settles O53: what decodes is the row of a frame at the start of the bytes. -/
theorem decodedBytesAreAnEncoding : Obligations.DecodedBytesAreAnEncoding := by
  intro cat B i rest h
  obtain ⟨t, o, p, ck, hp, rfl, hB⟩ := (decode_eq_ok_iff cat B rest i).mp h
  exact ⟨frameRow_wf t o ck hp, frameBytes t o p ck, encode_frameRow cat t o p ck, hB⟩

/-- Settles O51: each of the four words is the encoding of its well-formed instruction, followed by its rest. -/
theorem writtenOutFramesDecode : Obligations.WrittenOutFramesDecode :=
  ⟨decodeOfEncodeIsTheInstruction catT
      (.setRTC 0x00 [0x03, 0xF2, 0x0C, 0x05, 0x02, 0x04, 0x2E, 0x3C, 0x01, 0x01] 0x49FE) _ [] (by decide) rfl,
    decodeOfEncodeIsTheInstruction catT (.undocumented 0xAB 0xFF [0x01, 0x01, 0x01] 0x7ACF) _ [] (by decide) rfl,
    decodeOfEncodeIsTheInstruction catT (.updateLCD 0x43 0x01 [] 0x232D) _ [0x00] (by decide) rfl,
    decodeOfEncodeIsTheInstruction catT (.enableButton 0x46 0x00 [0x01, 0x02, 0x00, 0x34, 0xAA] 0x474B) _ []
      (by decide) rfl⟩

/-! ### The rows and the generic row (R80) -/

/-- The reception of a frame depends on its arm only at the state with the latches and `CRC` written. -/
theorem receive_congr {s : State} {t o : Byte} {p : List Byte} {ck : U16}
    {arm arm' : State → State × DispatchOutcome}
    (h : ∀ c, arm ((s.latchFrame t o p ck).setCrc c) = arm' ((s.latchFrame t o p ck).setCrc c)) :
    s.receive t o p ck arm = s.receive t o p ck arm' := by
  simp only [State.receive, h]

/-- A labelled row whose arm is the dispatcher's arm for its name means what the generic row means. -/
theorem receiveAs_eq_execFrame {s : State} {n : MsgName} {t : Byte} (o : Byte) (p : List Byte) (ck : U16)
    {arm : State → State × DispatchOutcome} (hn : s.catalog.name t = n)
    (harm : ∀ u : State, u.catalog.name t = n → arm u = u.dispatch t o p) :
    s.receiveAs n t o p ck arm = execFrame t o p ck s := by
  have hreceive : s.receive t o p ck arm = s.receive t o p ck fun u => u.dispatch t o p :=
    receive_congr fun c => harm _ hn
  by_cases hp : payloadFits p = true
  · rw [State.receiveAs, if_pos ⟨hp, hn⟩, hreceive, execFrame, if_pos hp]
  · rw [State.receiveAs, if_neg fun h => hp h.1, execFrame, if_neg hp]

/-- Settles O24, by the catalog's name for the code: each labelled row runs the dispatcher's arm for its name. -/
theorem everyRowIsACaseOfTheGenericFrame : Obligations.EveryRowIsACaseOfTheGenericFrame := by
  intro s t o p ck
  have hlabelled : ∀ {n arm}, s.catalog.name t = n →
      (∀ u : State, u.catalog.name t = n → arm u = u.dispatch t o p) →
      s.receiveAs n t o p ck arm = exec (.frame t o p ck) s := receiveAs_eq_execFrame o p ck
  unfold frameRow
  cases hn : s.catalog.name t with
  | setRTC =>
    by_cases ht : t = Config.codeSetRTC
    · subst ht
      exact hlabelled hn fun u hu => by rw [dispatch_eq, hu]; rfl
    · simp [ht]
  | other id => rfl
  | _ => exact hlabelled hn fun u hu => by rw [dispatch_eq, hu]; rfl

/-! ### Codes and payloads that are no form of a row (R75, R78) -/

theorem name_of_absent {cat : Catalog} {t : Byte} (h : ∀ e ∈ cat, e.1 ≠ t) : cat.name t = .undocumented := by
  induction cat with
  | nil => rfl
  | cons e rest ih =>
    obtain ⟨he, hrest⟩ := List.forall_mem_cons.mp h
    exact (if_neg he).trans (ih hrest)

/-- Settles O35: no entry means the sentinel, whose row is received and reaches the default arm. -/
theorem unknownCodesNameTheSentinel : Obligations.UnknownCodesNameTheSentinel := by
  intro s t o p ck hp hck habsent
  obtain ⟨u, hu, hnobody⟩ := receive_default (n := .undocumented) hck
  exact ⟨u, (receiveAs_eq o ck _ hp (name_of_absent habsent)).trans hu, hnobody⟩

theorem receiveAs_notAForm {s : State} {n : MsgName} {t o : Byte} {p : List Byte} {ck : U16}
    {arm : State → State × DispatchOutcome} (h : 249 < p.length ∨ s.catalog.name t ≠ n) :
    s.receiveAs n t o p ck arm = .refused .notAForm :=
  receiveAs_refused o ck arm fun ⟨hp, hn⟩ => h.elim (Nat.not_lt.mpr hp) fun hne => hne hn

theorem execFrame_notAForm {s : State} {t o : Byte} {p : List Byte} {ck : U16} (h : 249 < p.length) :
    execFrame t o p ck s = .refused .notAForm :=
  if_neg fun hp => Nat.not_lt.mpr ((payloadFits_iff p).mp hp) h

/-- Settles O25: the generic row checks the payload alone, each labelled row the payload and its name. -/
theorem rowsRefuseForeignCodesAndLongPayloads : Obligations.RowsRefuseForeignCodesAndLongPayloads := fun _ _ _ _ _ =>
  ⟨execFrame_notAForm, receiveAs_notAForm, receiveAs_notAForm, receiveAs_notAForm, receiveAs_notAForm,
    receiveAs_notAForm, receiveAs_notAForm, receiveAs_notAForm, receiveAs_notAForm, receiveAs_notAForm,
    receiveAs_notAForm, receiveAs_notAForm, receiveAs_notAForm⟩

end Sys2Proof.Machine
end

section
/-! The Checksum Engine (O6 to O13). The layers: the byte reversal, one shift of the register and `n` of them (linear,
injective, without feedback on short values), the table, one update by its serial form, and the running value over a byte
sequence. -/

namespace Sys2Proof.Machine

/-! ### The bytes of a running value (R11) -/

theorem hi8_eq_ofNat (c : U16) : hi8 c = BitVec.ofNat 8 (c.toNat / 256) :=
  BitVec.eq_of_toNat_eq (by simp [hi8, Nat.shiftRight_eq_div_pow])

theorem lo8_shifted_eq_ofNat (c : U16) : (lo8 c).setWidth 16 <<< 8 = BitVec.ofNat 16 (c.toNat % 256 * 256) :=
  BitVec.eq_of_toNat_eq (by simp [lo8, Nat.shiftLeft_eq])

@[simp] theorem hi8_xor (c c' : U16) : hi8 (c ^^^ c') = hi8 c ^^^ hi8 c' := BitVec.extractLsb'_xor

@[simp] theorem lo8_xor (c c' : U16) : lo8 (c ^^^ c') = lo8 c ^^^ lo8 c' := BitVec.extractLsb'_xor

/-- A word is its high byte moved up beside its low byte. -/
theorem u16le_eq_xor (lo hi : Byte) : u16le lo hi = (hi.setWidth 16 <<< 8) ^^^ lo.setWidth 16 := by
  refine BitVec.eq_of_getLsbD_eq fun i hi => ?_
  rw [u16le, BitVec.getLsbD_append]
  by_cases h : i < 8
  · simp [h, hi]
  · simp [h, hi, BitVec.getLsbD_of_ge lo i (not_lt.mp h)]

theorem shifted_eq_u16le (b : Byte) : b.setWidth 16 <<< 8 = u16le 0#8 b := by simp [u16le_eq_xor]

@[simp] theorem hi8_shifted (b : Byte) : hi8 (b.setWidth 16 <<< 8) = b := by rw [shifted_eq_u16le, hi8_u16le]

@[simp] theorem lo8_shifted (b : Byte) : lo8 (b.setWidth 16 <<< 8) = 0#8 := by rw [shifted_eq_u16le, lo8_u16le]

theorem eq_hi8_shifted_xor_lo8 (c : U16) : c = ((hi8 c).setWidth 16 <<< 8) ^^^ (lo8 c).setWidth 16 := by
  rw [← u16le_eq_xor, u16le_lo8_hi8]

/-! ### REFLECT8 (R100) -/

theorem getLsbD_reflect8 (b : Byte) {i : Nat} (hi : i < 8) : (reflect8 b).getLsbD i = b.getLsbD (7 - i) := by
  unfold reflect8
  iterate 7 rw [BitVec.getLsbD_append]
  interval_cases i <;> simp

@[simp] theorem reflect8_reflect8 (b : Byte) : reflect8 (reflect8 b) = b :=
  BitVec.eq_of_getLsbD_eq fun i hi => by
    rw [getLsbD_reflect8 _ hi, getLsbD_reflect8 _ (by omega), Nat.sub_sub_self (by omega)]

theorem reflect8_eq_self {b : Byte} (h : ∀ i, i < 8 → b.getLsbD i = b.getLsbD (7 - i)) : reflect8 b = b :=
  BitVec.eq_of_getLsbD_eq fun i hi => (getLsbD_reflect8 b hi).trans (h i hi).symm

theorem reflect8_xor (b b' : Byte) : reflect8 (b ^^^ b') = reflect8 b ^^^ reflect8 b' :=
  BitVec.eq_of_getLsbD_eq fun i hi => by simp [getLsbD_reflect8 _ hi]

@[simp] theorem crcInput_xor (reflectIn : Bool) (b b' : Byte) :
    crcInput reflectIn (b ^^^ b') = crcInput reflectIn b ^^^ crcInput reflectIn b' := by
  cases reflectIn with
  | false => rfl
  | true => exact reflect8_xor b b'

theorem crcInput_injective (reflectIn : Bool) : Function.Injective (crcInput reflectIn) := by
  cases reflectIn with
  | false => exact Function.injective_id
  | true => exact Function.LeftInverse.injective reflect8_reflect8

/-- Settles O6, from the bit equation of the reversal. -/
theorem reflect8ReversesTheBits : Obligations.Reflect8ReversesTheBits := by
  intro s b
  refine ⟨reflect8 b, rfl, fun i hi => getLsbD_reflect8 b hi, ?_, reflect8_eq_self⟩
  change Host.Outcome.next (s.returns (.byte (reflect8 (reflect8 b)))) = _
  rw [reflect8_reflect8]
  rfl

/-! ### The shift register (R101) -/

/-- What the bit that is shifted out feeds back into the register. -/
def crcFeedback (out : Bool) : U16 := if out then Config.crcPoly else 0

theorem crcFeedback_xor (out out' : Bool) : crcFeedback (out ^^ out') = crcFeedback out ^^^ crcFeedback out' := by
  cases out <;> cases out' <;> decide

theorem crcShift_eq (r : U16) : crcShift r = (r <<< 1) ^^^ crcFeedback (r.getLsbD 15) := by
  unfold crcShift crcFeedback
  cases r.getLsbD 15 <;> simp

theorem crcShift_xor (r r' : U16) : crcShift (r ^^^ r') = crcShift r ^^^ crcShift r' := by
  simp only [crcShift_eq, BitVec.getLsbD_xor, crcFeedback_xor, BitVec.shiftLeft_xor_distrib]
  ac_rfl

/-- The polynomial's constant term keeps the bit that is shifted out. -/
theorem getLsbD_crcShift_zero (r : U16) : (crcShift r).getLsbD 0 = r.getLsbD 15 := by
  unfold crcShift
  cases r.getLsbD 15 <;> simp [Config.crcPoly]

theorem crcShift_injective : Function.Injective crcShift := by
  intro r r' h
  have htop : r.getLsbD 15 = r'.getLsbD 15 := by rw [← getLsbD_crcShift_zero, h, getLsbD_crcShift_zero]
  have hshift : r <<< 1 = r' <<< 1 := by
    rw [crcShift_eq, crcShift_eq, htop] at h
    exact (BitVec.xor_left_inj _).mp h
  ext i hi
  by_cases hlast : i = 15
  · subst hlast
    exact htop
  · have hbit := congrArg (BitVec.getLsbD · (i + 1)) hshift
    simpa [show i + 1 < 16 by omega] using hbit

theorem crcShifts_eq_iterate (n : Nat) (r : U16) : crcShifts n r = crcShift^[n] r := by
  induction n generalizing r with
  | zero => rfl
  | succ n ih => exact ih (crcShift r)

theorem crcShifts_injective (n : Nat) : Function.Injective (crcShifts n) := by
  rw [funext (crcShifts_eq_iterate n)]
  exact crcShift_injective.iterate n

theorem crcShifts_xor (n : Nat) (r r' : U16) : crcShifts n (r ^^^ r') = crcShifts n r ^^^ crcShifts n r' := by
  induction n generalizing r r' with
  | zero => rfl
  | succ n ih => rw [crcShifts, crcShift_xor, ih]; rfl

/-- As long as no set bit reaches bit 15 there is no feedback, and `n` shifts are a shift by `n`. -/
theorem crcShifts_eq_shiftLeft {n : Nat} {r : U16} (h : r.toNat * 2 ^ n < 2 ^ 16) : crcShifts n r = r <<< n := by
  induction n generalizing r with
  | zero => simp [crcShifts]
  | succ n ih =>
    have hr : r.toNat < 2 ^ 15 := by
      have := Nat.le_mul_of_pos_right r.toNat (Nat.two_pow_pos n)
      rw [Nat.pow_succ, ← Nat.mul_assoc] at h
      omega
    have htop : r.getLsbD 15 = false := Nat.testBit_lt_two_pow hr
    have hstep : crcShift r = r <<< 1 := by rw [crcShift, htop]; rfl
    have hdouble : (r <<< 1).toNat = r.toNat * 2 := by
      rw [BitVec.toNat_shiftLeft, Nat.shiftLeft_eq]
      omega
    have hnext : (r <<< 1).toNat * 2 ^ n < 2 ^ 16 := by
      rw [hdouble, Nat.mul_assoc, ← Nat.pow_succ']
      exact h
    rw [crcShifts, hstep, ih hnext, ← BitVec.shiftLeft_add, Nat.add_comm]

/-- One shift on numbers below 2^16, written with doubling and remainder. -/
def crcShiftNat (r : Nat) : Nat := if r.testBit 15 then ((r * 2) % 65536) ^^^ 0x1021 else (r * 2) % 65536

theorem toNat_crcShift (r : U16) : (crcShift r).toNat = crcShiftNat r.toNat := by
  unfold crcShift crcShiftNat
  rw [BitVec.testBit_toNat]
  cases r.getLsbD 15 <;> simp [Config.crcPoly, Nat.shiftLeft_eq]

theorem toNat_crcTable (i : Byte) : (crcTable i).toNat = crcShiftNat^[8] (i.toNat * 256) := by
  have hstart : (i.setWidth 16 <<< 8).toNat = i.toNat * 256 := by
    have := i.isLt
    simp [Nat.shiftLeft_eq]
    omega
  have hsemi : Function.Semiconj BitVec.toNat crcShift crcShiftNat := toNat_crcShift
  rw [crcTable, crcShifts_eq_iterate, hsemi.iterate_right 8, hstart]

@[simp] theorem crcTable_xor (i j : Byte) : crcTable (i ^^^ j) = crcTable i ^^^ crcTable j := by
  rw [crcTable, BitVec.setWidth_xor, BitVec.shiftLeft_xor_distrib, crcShifts_xor]
  rfl

@[simp] theorem crcTable_zero : crcTable 0#8 = 0#16 := by decide

/-- Settles O7: the register's shift on `U16` is the shift on numbers, carried through eight shifts. -/
theorem crcTableEntryIsEightShifts : Obligations.CrcTableEntryIsEightShifts := by
  intro s i
  refine ⟨crcTable i, rfl, toNat_crcTable i, ?_, ?_, ?_, ?_⟩ <;> rintro rfl <;> decide

/-! ### CRC.UPDATE (R104, R107) -/

theorem crcUpdate_xor (reflectIn : Bool) (c c' : U16) (b b' : Byte) :
    crcUpdate reflectIn (c ^^^ c') (b ^^^ b') = crcUpdate reflectIn c b ^^^ crcUpdate reflectIn c' b' := by
  simp only [crcUpdate, hi8_xor, lo8_xor, crcInput_xor, crcTable_xor, BitVec.setWidth_xor, BitVec.shiftLeft_xor_distrib]
  ac_rfl

/-- Settles O10: every operation on the way is linear. -/
theorem crcTableAndUpdateAreLinear : Obligations.CrcTableAndUpdateAreLinear := ⟨crcTable_xor, crcUpdate_xor⟩

/-- The high byte enters the register beside the input byte; the low byte is only shifted up. -/
theorem crcUpdate_eq_serial (reflectIn : Bool) (c : U16) (b : Byte) :
    crcUpdate reflectIn c b = crcUpdateSerial reflectIn c b := by
  have hlow : crcShifts 8 ((lo8 c).setWidth 16) = (lo8 c).setWidth 16 <<< 8 :=
    crcShifts_eq_shiftLeft (by have := (lo8 c).isLt; rw [BitVec.toNat_setWidth]; omega)
  have hsplit : c ^^^ ((crcInput reflectIn b).setWidth 16 <<< 8) =
      ((hi8 c ^^^ crcInput reflectIn b).setWidth 16 <<< 8) ^^^ (lo8 c).setWidth 16 := by
    conv_lhs => rw [eq_hi8_shifted_xor_lo8 c]
    rw [BitVec.setWidth_xor, BitVec.shiftLeft_xor_distrib]
    ac_rfl
  rw [crcUpdateSerial, hsplit, crcShifts_xor, hlow]
  rfl

/-- Settles O11, by the split of the running value into its two bytes. -/
theorem crcUpdateEqualsItsSerialForm : Obligations.CrcUpdateEqualsItsSerialForm := crcUpdate_eq_serial

/-- Settles O9: the two bytes of the running value by division and remainder, and the corner values by evaluation. -/
theorem crcUpdateLooksUpHighByteXorInput : Obligations.CrcUpdateLooksUpHighByteXorInput := by
  intro s c b
  refine ⟨crcUpdate s.reflectIn c b, rfl, ?_, ?_⟩
  · rw [← hi8_eq_ofNat, ← lo8_shifted_eq_ofNat]
    rfl
  · refine ⟨?_, ?_, ?_⟩ <;> rintro rfl rfl <;> cases s.reflectIn <;> decide

theorem crcUpdate_left_injective (reflectIn : Bool) (b : Byte) :
    Function.Injective fun c => crcUpdate reflectIn c b := by
  intro c c' h
  simp only [crcUpdate_eq_serial, crcUpdateSerial] at h
  exact (BitVec.xor_left_inj _).mp (crcShifts_injective 8 h)

theorem crcUpdate_right_injective (reflectIn : Bool) (c : U16) : Function.Injective (crcUpdate reflectIn c) := by
  intro b b' h
  simp only [crcUpdate_eq_serial, crcUpdateSerial] at h
  have hshifted := (BitVec.xor_right_inj _).mp (crcShifts_injective 8 h)
  have hinput := congrArg hi8 hshifted
  rw [hi8_shifted, hi8_shifted] at hinput
  exact crcInput_injective reflectIn hinput

/-! ### CHECKSUM (R103, R105, R106) -/

theorem crcContinue_append (reflectIn : Bool) (c : U16) (A B : List Byte) :
    crcContinue reflectIn c (A ++ B) = crcContinue reflectIn (crcContinue reflectIn c A) B := List.foldl_append

theorem checksum_append (reflectIn : Bool) (A B : List Byte) :
    checksum reflectIn (A ++ B) = crcContinue reflectIn (checksum reflectIn A) B := crcContinue_append _ _ _ _

/-- Settles O8: the seed is the running value that CHECKSUM starts from. -/
theorem crcSeedWritesAllOnes : Obligations.CrcSeedWritesAllOnes := fun _ => ⟨rfl, fun _ => rfl⟩

theorem checksum_swap_ne (reflectIn : Bool) :
    checksum reflectIn [0x00, 0x01] ≠ checksum reflectIn [0x01, 0x00] := by
  cases reflectIn <;> decide +kernel

/-- Settles O12: the value after one more byte is a continuation by that byte. -/
theorem checksumUpdatesWithEveryByteInOrder : Obligations.ChecksumUpdatesWithEveryByteInOrder := fun s d b =>
  ⟨rfl, rfl, checksum_append s.reflectIn d [b], checksum_swap_ne s.reflectIn⟩

/-- The high byte meets itself and leaves the low byte shifted up, which then meets itself. -/
theorem crcContinue_residue (c : U16) : crcContinue false c [hi8 c, lo8 c] = 0 := by
  have hhigh : crcUpdate false c (hi8 c) = (lo8 c).setWidth 16 <<< 8 := by
    rw [crcUpdate, crcInput]
    simp
  have hlow : crcUpdate false ((lo8 c).setWidth 16 <<< 8) (lo8 c) = 0 := by
    rw [crcUpdate, hi8_shifted, lo8_shifted, crcInput]
    simp
  change crcUpdate false (crcUpdate false c (hi8 c)) (lo8 c) = 0
  rw [hhigh, hlow]

/-- Settles O13: the empty frames of msgType 0 and 1 show that the wire's order leaves no constant. -/
theorem checksumContinuesAndLeavesNoResidue : Obligations.ChecksumContinuesAndLeavesNoResidue := by
  refine ⟨checksum_append, fun D => crcContinue_residue _, fun reflectIn => ?_⟩
  refine ⟨0x00, 0x00, 0x01, 0x00, [], [], _, _, by decide, by decide, rfl, rfl, ?_⟩
  cases reflectIn <;> decide +kernel

end Sys2Proof.Machine
end

section
/-! Error detection (O57). The layers: one changed byte changes the checksum, a frame with its right checksum is more than
one byte away from any other of its length, and what the first pass of a PARSE reports for a chunk that is no such frame. -/

namespace Sys2Proof.Machine

/-! ### One changed byte (R108) -/

theorem crcContinue_injective (reflectIn : Bool) (D : List Byte) :
    Function.Injective fun c => crcContinue reflectIn c D := by
  induction D with
  | nil => exact Function.injective_id
  | cons b D ih => exact ih.comp (crcUpdate_left_injective reflectIn b)

/-- The changed byte changes the running value, and no later byte makes two running values equal again. -/
theorem checksum_set_ne (reflectIn : Bool) {D : List Byte} {k : Nat} {b : Byte} (hk : k < D.length) (hb : D[k] ≠ b) :
    checksum reflectIn (D.set k b) ≠ checksum reflectIn D := by
  intro h
  have hD : D.take k ++ D[k] :: D.drop (k + 1) = D := by rw [List.getElem_cons_drop, List.take_append_drop]
  rw [List.set_eq_take_append_cons_drop, if_pos hk, checksum_append] at h
  conv_rhs at h => rw [← hD, checksum_append]
  exact hb (crcUpdate_right_injective reflectIn _ (crcContinue_injective reflectIn _ h)).symm

theorem appendWord_length (B : List Byte) (v : U16) : (appendWord B v).length = B.length + 2 := by simp [appendWord]

theorem appendWord_inj {A B : List Byte} {v w : U16} (hlen : A.length = B.length)
    (h : A ++ [lo8 v, hi8 v] = appendWord B w) : A = B ∧ v = w := by
  obtain ⟨hAB, hbytes⟩ := List.append_inj h hlen
  obtain ⟨hlo, hhi⟩ : lo8 v = lo8 w ∧ hi8 v = hi8 w := by simpa using hbytes
  exact ⟨hAB, by rw [← u16le_lo8_hi8 v, hlo, hhi, u16le_lo8_hi8]⟩

/-- A wrong byte in front of the checksum changes the recomputed value and not the received one; a wrong checksum byte
changes the received one only. -/
theorem ne_checksum_of_set {reflectIn : Bool} {H H' : List Byte} {v : U16} {k : Nat} {b : Byte}
    (hk : k < (appendWord H (checksum reflectIn H)).length) (hb : (appendWord H (checksum reflectIn H))[k]? ≠ some b)
    (h : (appendWord H (checksum reflectIn H)).set k b = appendWord H' v) : v ≠ checksum reflectIn H' := by
  have hlen : H.length = H'.length := by simpa [appendWord] using congrArg List.length h
  intro hv
  by_cases hhead : k < H.length
  · rw [appendWord, List.set_append_left _ _ hhead] at h
    obtain ⟨hH, hw⟩ := appendWord_inj (by simpa using hlen) h
    have hbyte : H[k] ≠ b := by
      rw [appendWord, List.getElem?_append_left hhead, List.getElem?_eq_getElem hhead] at hb
      exact fun he => hb (congrArg some he)
    exact checksum_set_ne reflectIn hhead hbyte (by rw [hH, hw, hv])
  · have hsame : H = H' := by
      rw [appendWord, List.set_append_right _ _ (not_lt.mp hhead)] at h
      exact (List.append_inj h hlen).1
    rw [hv, ← hsame] at h
    rw [← h, List.getElem?_set_self hk] at hb
    exact hb rfl

/-! ### The first pass over a chunk -/

/-- The PARSE of `B` started in `s` ends at its first pass with the error `e`, and no frame is delivered. -/
def FirstPassReports (s : State) (B : List Byte) (e : ProtocolError) : Prop :=
  ∃ u, step (s.startParse B) = .next u ∧ u.results = s.results ++ [.parsed { frames := [], error := some e }]

theorem exec_parse_start {s : State} {B : List Byte} (hidle : s.parse = none) (hchunk : chunkAllowed s B)
    (hne : B ≠ []) : exec (.parse B) s = .next (s.startParse B) := by
  change execParse B s = _
  rw [execParse, hidle, (chunkFits_iff s B).mpr hchunk, List.isEmpty_eq_false_iff.mpr hne]
  rfl

theorem step_startParse_error {s : State} {B : List Byte} {e : DecodeError} (hr : s.resetLine = false)
    (hB : decode s.catalog B = .error e) : step (s.startParse B) = (s.startParse B).rejectFrame e :=
  step_fetch_error (s := s.startParse B) hr (Option.some_ne_none _) hB

theorem decode_badStart (cat : Catalog) {b : Byte} (tail : List Byte) (hb : b ≠ Config.startByte) :
    decode cat (b :: tail) = .error .badStart := if_pos hb

theorem decode_belowMinimum (cat : Catalog) {len : Byte} (tail : List Byte) (hmin : len.toNat < 6) :
    decode cat (Config.startByte :: len :: tail) = .error .lengthBelowMinimum := if_pos hmin

theorem decode_shorterThanDeclared (cat : Catalog) {len : Byte} {tail : List Byte} (hmin : ¬ len.toNat < 6)
    (hlong : tail.length + 2 < len.toNat) :
    decode cat (Config.startByte :: len :: tail) = .error .shorterThanDeclared := (if_neg hmin).trans (if_pos hlong)

theorem firstPassReports_badStart {s : State} {b : Byte} (tail : List Byte) (hr : s.resetLine = false)
    (hb : b ≠ Config.startByte) : FirstPassReports s (b :: tail) .invalidMessage :=
  ⟨_, step_startParse_error hr (decode_badStart s.catalog tail hb), rfl⟩

theorem firstPassReports_badLength {s : State} {len : Byte} {tail : List Byte} (hr : s.resetLine = false)
    (hlen : len.toNat < 6 ∨ tail.length + 2 < len.toNat) :
    FirstPassReports s (Config.startByte :: len :: tail) .invalidMessageLengthMismatch := by
  by_cases hmin : len.toNat < 6
  · exact ⟨_, step_startParse_error hr (decode_belowMinimum s.catalog tail hmin), rfl⟩
  · exact ⟨_, step_startParse_error hr (decode_shorterThanDeclared s.catalog hmin (hlen.resolve_left hmin)), rfl⟩

/-- A frame of any row with a wrong checksum, whatever follows it (R126). -/
theorem firstPassReports_badChecksum {s : State} {t o : Byte} {p : List Byte} {ck : U16} (rest : List Byte)
    (hr : s.resetLine = false) (hp : payloadFits p = true) (hck : ck ≠ checksum s.reflectIn (headBytes t o p)) :
    FirstPassReports s (frameBytes t o p ck ++ rest) .invalidChecksum := by
  have hfetch := decode_frameBytes_append s.catalog t o ck rest hp
  generalize frameBytes t o p ck ++ rest = B at hfetch ⊢
  obtain ⟨u, hu, hend⟩ := receive_bad (s := s.startParse B) (fun v => v.dispatch t o p) hck
  have hrow : exec (frameRow s.catalog t o p ck) (s.startParse B) = .next u :=
    (everyRowIsACaseOfTheGenericFrame (s.startParse B) t o p ck).trans ((if_pos hp).trans hu)
  exact ⟨u, (step_fetch_ok (s := s.startParse B) hr (Option.some_ne_none _) hfetch).trans hrow, hend.results⟩

/-- A start byte and a length byte that the chunk can meet begin with a frame of that length (R124, R125). -/
theorem exists_frameBytes_append {len : Byte} {tail : List Byte} (hmin : 6 ≤ len.toNat)
    (hfits : len.toNat ≤ tail.length + 2) :
    ∃ t o p ck rest, payloadFits p = true ∧ len.toNat = (headBytes t o p).length + 2 ∧
      Config.startByte :: len :: tail = frameBytes t o p ck ++ rest := by
  have hcut : (tail.take (len.toNat - 2)).length + 2 = len.toNat := by rw [List.length_take]; omega
  obtain ⟨t, o, p, ck, hp, hframe⟩ := eq_frameBytes_of_length hmin hcut
  refine ⟨t, o, p, ck, tail.drop (len.toNat - 2), hp, ?_, ?_⟩
  · rw [← appendWord_length _ ck, ← hcut]
    exact congrArg List.length hframe
  · rw [← hframe, List.cons_append, List.cons_append, List.take_append_drop]

theorem toNat_u16le (lo hi : Byte) : (u16le lo hi).toNat = lo.toNat + 256 * hi.toNat := by
  rw [u16le, BitVec.toNat_append, ← Nat.shiftLeft_add_eq_or_of_lt lo.isLt, Nat.shiftLeft_eq]
  omega

/-- The two bytes behind a sequence, as the number they stand for (R54). -/
theorem toNat_bytes_behind (H rest : List Byte) (v : U16) :
    (byteAt (appendWord H v ++ rest) H.length).toNat + 256 * (byteAt (appendWord H v ++ rest) (H.length + 1)).toNat =
      v.toNat := by
  rw [appendWord, List.append_assoc, ← toNat_u16le]
  exact congrArg BitVec.toNat
    ((congrArg₂ u16le (byteAt_append_right H _ 0) (byteAt_append_right H _ 1)).trans (u16le_lo8_hi8 v))

/-- A chunk that begins with a start byte and an admissible length, where the two bytes at the end of that length are not
the checksum of those before them. -/
theorem firstPassReports_of_bytes {s : State} {len : Byte} {tail B : List Byte} (hr : s.resetLine = false)
    (hB : B = Config.startByte :: len :: tail) (hmin : 6 ≤ len.toNat) (hfits : len.toNat ≤ tail.length + 2)
    (hck : (checksum s.reflectIn (B.take (len.toNat - 2))).toNat ≠
      (byteAt B (len.toNat - 2)).toNat + 256 * (byteAt B (len.toNat - 1)).toNat) :
    FirstPassReports s B .invalidChecksum := by
  obtain ⟨t, o, p, ck, rest, hp, hlen, hframe⟩ := exists_frameBytes_append hmin hfits
  rw [hB, hframe]
  refine firstPassReports_badChecksum rest hr hp fun he => hck ?_
  have hhead : B.take (len.toNat - 2) = headBytes t o p := by
    rw [hB, hframe, frameBytes, appendWord, List.append_assoc]
    exact List.take_left' (by omega)
  rw [hhead, ← he, hlen, hB, hframe]
  exact (toNat_bytes_behind (headBytes t o p) rest ck).symm

/-! ### A composed frame with one wrong byte (R131) -/

theorem composeValue_eq_bytes {reflectIn : Bool} {a : ComposeRequest} {f : List Byte}
    (h : composeValue reflectIn a = .bytes f) :
    payloadFits a.payload = true ∧ f = composeBytes reflectIn a.msgType a.optionBits a.payload := by
  by_cases hlong : 249 < a.payload.length
  · rw [composeValue_tooLong hlong] at h
    cases h
  · rw [composeValue_fits (not_lt.mp hlong)] at h
    cases h
    exact ⟨(payloadFits_iff _).mpr (not_lt.mp hlong), rfl⟩

/-- A composed frame begins with the start byte and a byte that declares its length. -/
theorem composeBytes_eq_cons (reflectIn : Bool) (t o : Byte) {p : List Byte} (hp : payloadFits p = true) :
    ∃ len tail, composeBytes reflectIn t o p = Config.startByte :: len :: tail ∧ tail.length + 2 = len.toNat ∧
      6 ≤ len.toNat := by
  refine ⟨_, _, rfl, ?_, ?_⟩ <;> rw [lengthByte_toNat hp]
  · simp
  · omega

/-- A wrong byte behind the length byte leaves a frame of the same length, whose checksum is then wrong. -/
theorem firstPassReports_of_set {s : State} {t o : Byte} {p : List Byte} {k : Nat} {b : Byte}
    (hr : s.resetLine = false) (hp : payloadFits p = true)
    (hk : k + 2 < (composeBytes s.reflectIn t o p).length) (hb : (composeBytes s.reflectIn t o p)[k + 2]? ≠ some b) :
    FirstPassReports s ((composeBytes s.reflectIn t o p).set (k + 2) b) .invalidChecksum := by
  obtain ⟨len, tail, hcons, hlen, hmin⟩ := composeBytes_eq_cons s.reflectIn t o hp
  obtain ⟨t', o', p', ck, hp', hframe⟩ :=
    eq_frameBytes_of_length (tail := tail.set k b) hmin (by rw [List.length_set, hlen])
  have hset : (composeBytes s.reflectIn t o p).set (k + 2) b = frameBytes t' o' p' ck := by rw [hcons, ← hframe]; rfl
  have hck := ne_checksum_of_set hk hb hset
  rw [hset, ← List.append_nil (frameBytes t' o' p' ck)]
  exact firstPassReports_badChecksum [] hr hp' hck

theorem byteAt_set_ne {B : List Byte} {i k : Nat} (b : Byte) (h : k ≠ i) : byteAt (B.set k b) i = byteAt B i := by
  rw [byteAt, byteAt, List.getD_eq_getElem?_getD, List.getElem?_set_ne h, List.getD_eq_getElem?_getD]

/-- Settles O57, by the byte's offset: the start byte, the length byte, any later byte. -/
theorem singleByteCorruptionByOffset : Obligations.SingleByteCorruptionByOffset := by
  intro s a f k b hidle hr hchunk hf hk hb
  obtain ⟨hp, rfl⟩ := composeValue_eq_bytes hf
  obtain ⟨len, tail, hcons, hlen, hmin⟩ := composeBytes_eq_cons s.reflectIn a.msgType a.optionBits hp
  refine ⟨s.startParse ((composeBytes s.reflectIn a.msgType a.optionBits a.payload).set k b), ?_, ?_, ?_, ?_, ?_⟩
  · refine exec_parse_start hidle ?_ (List.ne_nil_of_length_pos ?_)
    · simpa only [chunkAllowed, List.length_set] using hchunk
    · rw [List.length_set]
      omega
  · rintro rfl
    rw [hcons] at hb ⊢
    exact firstPassReports_badStart _ hr fun he => hb (congrArg some he.symm)
  · rintro rfl hbad
    rw [hcons] at hbad ⊢
    exact firstPassReports_badLength hr hbad
  · rintro rfl hmin' hshort hck
    refine firstPassReports_of_bytes (len := b) (tail := tail) hr (by rw [hcons]; rfl) hmin' ?_ ?_
    · rw [hcons] at hshort
      exact hshort.le
    · rwa [byteAt_set_ne b (by omega), byteAt_set_ne b (by omega)]
  · intro htwo
    obtain ⟨j, rfl⟩ := Nat.exists_eq_add_of_le' htwo
    exact firstPassReports_of_set hr hp hk hb

end Sys2Proof.Machine
end

section
/-! One pass of a PARSE (O17, O20 to O23, O45). The layers: how a PARSE starts, what a pass reports for bytes that are
no frame, what every row does with a wrong checksum, and what the generic row does with a right one. -/

namespace Sys2Proof.Machine

/-! ### The start and the pass (R121, R130) -/

theorem exec_parse_nil {s : State} (hidle : s.parse = none) :
    exec (.parse []) s = .next (s.returns (.parsed { frames := [], error := none })) := by
  have hchunk : s.chunkFits [] = true := (chunkFits_iff s []).mpr fun m _ => Nat.zero_le m
  change execParse [] s = _
  rw [execParse, hidle, hchunk]
  rfl

/-- Settles O17: the empty chunk, and any other. -/
theorem parseStartsAtOffsetZero : Obligations.ParseStartsAtOffsetZero := by
  intro s chunk hidle hchunk
  by_cases hempty : chunk = []
  · rw [hempty, exec_parse_nil hidle]
    rfl
  · rw [exec_parse_start hidle hchunk hempty, if_neg hempty]
    rfl

/-- Settles O45: the fetch at the cursor is the decode of the bytes from there on. -/
theorem stepRunsTheFrameAtTheCursor : Obligations.StepRunsTheFrameAtTheCursor := fun _ _ _ hr hp hdecode =>
  step_fetch_ok hr hp hdecode

/-! ### Bytes that are no frame (R122 to R124) -/

theorem decode_lengthMissing (cat : Catalog) : decode cat [Config.startByte] = .error .lengthMissing := rfl

theorem drop_eq_cons_of_getElem? {B : List Byte} {i : Nat} {b : Byte} (h : B[i]? = some b) :
    B.drop i = b :: B.drop (i + 1) := by
  obtain ⟨hi, rfl⟩ := List.getElem?_eq_some_iff.mp h
  exact List.drop_eq_getElem_cons hi

theorem rest_length (s : State) : s.rest.length = s.rxb.length - s.pos := List.length_drop

/-- Settles O20: the decoder reports the start byte before anything else, and the invariant keeps the cursor at 0 or at
a start byte. -/
theorem badStartByteIsInvalidMessage : Obligations.BadStartByteIsInvalidMessage := by
  intro s b hr hp hb hbad
  have hfetch : s.fetch = .error .badStart := by
    rw [State.fetch, State.rest, drop_eq_cons_of_getElem? hb]
    exact decode_badStart s.catalog _ hbad
  refine ⟨_, step_fetch_error hr hp hfetch, takeError_spec s _, rfl, fun hinv => ?_⟩
  by_contra hpos
  rw [hinv.cursorAtStart hp hpos] at hb
  exact hbad (Option.some.inj hb).symm

/-- Settles O21: no length byte, or a length byte that is too small or that the buffer does not meet. -/
theorem lengthFaultsAreLengthMismatch : Obligations.LengthFaultsAreLengthMismatch := by
  intro s hr hp hstart
  have hrest : s.rest = 0x01 :: s.rxb.drop (s.pos + 1) := drop_eq_cons_of_getElem? hstart
  have hlength := rest_length s
  rw [hrest, List.length_cons] at hlength
  constructor
  · intro hshort
    have hnone : s.rxb.drop (s.pos + 1) = [] := List.length_eq_zero_iff.mp (by omega)
    have hfetch : s.fetch = .error .lengthMissing := by
      rw [State.fetch, hrest, hnone]
      exact decode_lengthMissing s.catalog
    exact ⟨_, step_fetch_error hr hp hfetch, takeError_spec s _, rfl⟩
  · intro len hlen hbad
    have htail : s.rxb.drop (s.pos + 1) = len :: s.rxb.drop (s.pos + 2) := drop_eq_cons_of_getElem? hlen
    have hlatches : s.latchLength.latches = { s.latches with hLen := len } := by
      rw [State.latchLength, hrest, htail]
      rfl
    rw [htail, List.length_cons] at hlength
    refine ⟨s.latchLength.takeError .invalidMessageLengthMismatch, ?_, latchLength_takeError_spec s _, hlatches⟩
    by_cases hmin : len.toNat < 6
    · have hfetch : s.fetch = .error .lengthBelowMinimum := by
        rw [State.fetch, hrest, htail]
        exact decode_belowMinimum s.catalog _ hmin
      rw [step_fetch_error hr hp hfetch]
      rfl
    · have hfetch : s.fetch = .error .shorterThanDeclared := by
        rw [State.fetch, hrest, htail]
        exact decode_shorterThanDeclared s.catalog hmin (by have := hbad.resolve_left hmin; omega)
      rw [step_fetch_error hr hp hfetch]
      rfl

/-! ### A wrong checksum (R126) -/

/-- What a wrong checksum leaves: the fields latched, the recomputed value in `CRC`, the PARSE ended. -/
def State.refuseChecksum (s : State) (t o : Byte) (p : List Byte) (ck : U16) : State :=
  ((s.latchFrame t o p ck).setCrc (checksum s.reflectIn (headBytes t o p))).takeError .invalidChecksum

theorem refuseChecksum_endedWith (s : State) (t o : Byte) (p : List Byte) (ck : U16) :
    EndedWith s .invalidChecksum (s.refuseChecksum t o p ck) :=
  ⟨⟨rfl, rfl, rfl, rfl, rfl⟩, rfl, rfl, rfl, rfl, rfl, rfl, rfl, rfl, rfl⟩

/-- The arm plays no part in it: the frame is not delivered. -/
theorem receive_eq_refuseChecksum {s : State} {t o : Byte} {p : List Byte} {ck : U16}
    (arm : State → State × DispatchOutcome) (h : ¬ goodChecksum s t o p ck) :
    s.receive t o p ck arm = .next (s.refuseChecksum t o p ck) :=
  if_neg fun he => h he.symm

/-- Settles O22: the generic row and every labelled row of the name receive the frame, each with its own arm. -/
theorem wrongChecksumIsInvalidChecksum : Obligations.WrongChecksumIsInvalidChecksum := by
  intro s t o p ck hp hck
  have hrow : ∀ {n : MsgName} {arm : State → State × DispatchOutcome}, s.catalog.name t = n →
      s.receiveAs n t o p ck arm = .next (s.refuseChecksum t o p ck) := fun hn =>
    (receiveAs_eq o ck _ hp hn).trans (receive_eq_refuseChecksum _ hck)
  refine ⟨_, refuseChecksum_endedWith s t o p ck, rfl, rfl, rfl, rfl, rfl, ?_, ?_, hrow, hrow, hrow, hrow, hrow, hrow,
    hrow, hrow, hrow, hrow, hrow⟩
  · exact (if_pos ((payloadFits_iff p).mpr hp)).trans (receive_eq_refuseChecksum _ hck)
  · rintro rfl hn
    exact hrow hn

/-! ### A right checksum (R127 to R129) -/

/-- The environment's entry is what the handler asks for; `getDeviceType`'s one request is the entry's first, or a free
one (R209, R210). -/
theorem handlerWillAsk_asks (s : State) (n : MsgName) : handlerWillAsk s n (s.asks n) := by
  cases n with
  | getDeviceType => exact ⟨_, rfl, fun r more later h => by rw [h]; rfl⟩
  | _ => exact rfl

/-- The generic row receives its frame with whatever arm the dispatcher selects by the catalog (R186). -/
theorem execFrame_eq_receive {s : State} {t o : Byte} {p : List Byte} {ck : U16}
    {arm : State → State × DispatchOutcome} (hp : p.length ≤ 249)
    (harm : ∀ u : State, u.catalog = s.catalog → u.dispatch t o p = arm u) :
    execFrame t o p ck s = s.receive t o p ck arm :=
  (if_pos ((payloadFits_iff p).mpr hp)).trans (receive_congr fun _ => harm _ rfl)

/-- Settles O23: the catalog's name has a contract, and its handler takes the frame, or has none. -/
theorem anyFrameIsDispatchedAndAccepted : Obligations.AnyFrameIsDispatchedAndAccepted := by
  intro s t o p ck hp hck
  have hhandler := contractOf_isSome (s.catalog.name t) o p
  cases hc : contractOf (s.catalog.name t) o p with
  | some c =>
    have hmem : s.catalog.name t ∈ handlers := hhandler.mp (by rw [hc]; rfl)
    obtain ⟨u, hu, hto⟩ := receive_handler c hck
    obtain ⟨h, haccepted, -⟩ := hto.accepted
    exact ⟨u, (execFrame_eq_receive hp fun v hv => by rw [dispatch_eq, hv, hc]).trans hu,
      fun _ => ⟨_, h, _, handlerWillAsk_asks s _, haccepted, hto.handlerCalls, rfl, rfl, rfl, hto.handlerAsks⟩,
      fun hno => absurd hmem hno⟩
  | none =>
    have hmem : s.catalog.name t ∉ handlers := fun h => by simpa [hc] using hhandler.mpr h
    obtain ⟨u, hu, hnobody⟩ := receive_default hck
    exact ⟨u, (execFrame_eq_receive hp fun v hv => by rw [dispatch_eq, hv, hc]).trans hu,
      fun hyes => absurd hyes hmem, fun _ => hnobody⟩

end Sys2Proof.Machine
end

section
/-! Whole PARSE operations (O54, O55, O56, O59). The layers: what a pass over a frame with its right checksum leaves, what
a pass that ends in an error leaves, the loop of R130 read from the cursor on, and the passes against that loop. -/

namespace Sys2Proof.Machine

/-! ### A pass over a frame (R127 to R129) -/

/-- The record's outcome is the one its name selects (R186). -/
def OutcomeSelected (cat : Catalog) (f : FrameRecord) : Prop :=
  (cat.name f.msgType ∈ handlers → ∃ h, f.outcome = .handled (cat.name f.msgType) h) ∧
    (cat.name f.msgType ∉ handlers → f.outcome = .notImplemented (cat.name f.msgType))

/-- From `s` to `u` the handlers were called for the frames of `frames` that have one, in order (R62, R187). -/
def HandedOver (s : State) (frames : List FrameRecord) (u : State) : Prop :=
  ∃ calls, u.handlerCalls = s.handlerCalls ++ calls ∧
    (calls.map fun c => (c.name, c.optionBits, c.payload)) =
      (frames.filter fun f => decide (s.catalog.name f.msgType ∈ handlers)).map fun f =>
        (s.catalog.name f.msgType, f.optionBits, f.payload)

theorem handedOver_nil {s u : State} (h : u.handlerCalls = s.handlerCalls) : HandedOver s [] u :=
  ⟨[], by rw [h, List.append_nil], rfl⟩

theorem HandedOver.append {s t u : State} {frames more : List FrameRecord} (h : HandedOver s frames t)
    (hcat : t.catalog = s.catalog) (k : HandedOver t more u) : HandedOver s (frames ++ more) u := by
  obtain ⟨calls, hcalls, htriples⟩ := h
  obtain ⟨later, hlater, ktriples⟩ := k
  rw [hcat] at ktriples
  refine ⟨calls ++ later, by rw [hlater, hcalls, List.append_assoc], ?_⟩
  rw [List.map_append, htriples, ktriples, List.filter_append, List.map_append]

/-- What a pass leaves that delivers the record `x` of a frame with the bytes `rest` behind it. -/
structure FramePass (s : State) (x : FrameRecord) (rest : List Byte) (u : State) : Prop where
  setting : SameSetting s u
  outcome : OutcomeSelected s.catalog x
  calls : HandedOver s [x] u
  onward : rest.head? = some 0x01 → u.parse = some (s.records ++ [x]) ∧ u.rest = rest
  finished : rest.head? ≠ some 0x01 → u.parse = none ∧ u.rxb = [] ∧
    u.results.getLast? = some (.parsed { frames := s.records ++ [x], error := none })

@[simp] theorem headBytes_length (t o : Byte) (p : List Byte) : (headBytes t o p).length = p.length + 4 := rfl

@[simp] theorem frameBytes_length (t o : Byte) (p : List Byte) (ck : U16) :
    (frameBytes t o p ck).length = p.length + 6 := appendWord_length _ ck

/-- Behind a frame stands what follows it. -/
theorem drop_frameBytes_append (t o : Byte) (p : List Byte) (ck : U16) (rest : List Byte) :
    (frameBytes t o p ck ++ rest).drop (p.length + 6) = rest := List.drop_left' (frameBytes_length t o p ck)

/-- Another frame follows when there is a start byte behind this one (R128). -/
theorem followedByFrame_iff (s : State) (L : Nat) : followedByFrame s L ↔ (s.rest.drop L).head? = some 0x01 := by
  rw [List.head?_drop, State.rest, List.getElem?_drop, followedByFrame]
  refine and_iff_right_of_imp fun h => ?_
  obtain ⟨hlt, -⟩ := List.getElem?_eq_some_iff.mp h
  omega

/-- From what acceptance leaves to what the pass leaves. -/
theorem Accepted.framePass {s u : State} {t o : Byte} {p : List Byte} {ck : U16} {out : DispatchOutcome}
    {asks : List ComposeRequest} {rest : List Byte} (h : Accepted s t o p ck out asks u)
    (hrest : s.rest = frameBytes t o p ck ++ rest)
    (hout : OutcomeSelected s.catalog { msgType := t, optionBits := o, payload := p, outcome := out })
    (hcalls : HandedOver s [{ msgType := t, optionBits := o, payload := p, outcome := out }] u) :
    FramePass s { msgType := t, optionBits := o, payload := p, outcome := out } rest u := by
  have hbehind : s.rest.drop (p.length + 6) = rest := hrest ▸ drop_frameBytes_append t o p ck rest
  have hfollows := followedByFrame_iff s (p.length + 6)
  rw [hbehind] at hfollows
  refine ⟨h.setting, hout, hcalls, fun hstart => ?_, fun hother => ?_⟩
  · obtain ⟨hpos, hrxb, hparse, -⟩ := h.onward (hfollows.mpr hstart)
    exact ⟨hparse, by rw [State.rest, hpos, hrxb, ← List.drop_drop]; exact hbehind⟩
  · obtain ⟨-, hrxb, hparse, hresults⟩ := h.finished (mt hfollows.mp hother)
    exact ⟨hparse, hrxb, by rw [hresults, List.getLast?_concat]⟩

/-- The step over a frame that is well framed is the generic row's meaning (R80, R130). -/
theorem step_frameBytes {s : State} {t o : Byte} {p : List Byte} {ck : U16} {rest : List Byte}
    (hr : s.resetLine = false) (hparse : s.parse ≠ none) (hp : payloadFits p = true)
    (hrest : s.rest = frameBytes t o p ck ++ rest) : step s = exec (.frame t o p ck) s := by
  have hfetch : s.fetch = .ok (frameRow s.catalog t o p ck, rest) := by
    rw [State.fetch, hrest]
    exact decode_frameBytes_append s.catalog t o ck rest hp
  exact (step_fetch_ok hr hparse hfetch).trans (everyRowIsACaseOfTheGenericFrame s t o p ck)

/-- A pass over a frame with its right checksum delivers one record with its fields. -/
theorem step_framePass {s : State} {t o : Byte} {p : List Byte} {ck : U16} {rest : List Byte}
    (hr : s.resetLine = false) (hparse : s.parse ≠ none) (hp : payloadFits p = true)
    (hrest : s.rest = frameBytes t o p ck ++ rest) (hck : goodChecksum s t o p ck) :
    ∃ u out, step s = .next u ∧
      FramePass s { msgType := t, optionBits := o, payload := p, outcome := out } rest u := by
  obtain ⟨u, hu, hhandled, hnobody⟩ := anyFrameIsDispatchedAndAccepted s t o p ck ((payloadFits_iff p).mp hp) hck
  have hstep := (step_frameBytes hr hparse hp hrest).trans hu
  by_cases hmem : s.catalog.name t ∈ handlers
  · obtain ⟨asks, h, call, -, haccepted, hcalls, hname, hopt, hpay, -⟩ := hhandled hmem
    refine ⟨u, _, hstep, haccepted.framePass hrest ⟨fun _ => ⟨h, rfl⟩, fun hno => absurd hmem hno⟩ ?_⟩
    refine ⟨[call], hcalls, ?_⟩
    simp [hmem, hname, hopt, hpay]
  · have h := hnobody hmem
    refine ⟨u, _, hstep, h.accepted.framePass hrest ⟨fun hyes => absurd hyes hmem, fun _ => rfl⟩ ⟨[], ?_, ?_⟩⟩
    · rw [h.handlerCalls, List.append_nil]
    · simp [hmem]

/-! ### A pass that ends in an error (R122 to R126) -/

/-- The framing error that a failed fetch reports (R231, R232). -/
def framingErrorOf : DecodeError → ProtocolError
  | .badStart => .invalidMessage
  | _ => .invalidMessageLengthMismatch

theorem rejectFrame_spec (s : State) {e : DecodeError} (h : e ≠ .noBytes) :
    ∃ u, s.rejectFrame e = .next u ∧ EndedWith s (framingErrorOf e) u := by
  cases e with
  | noBytes => exact absurd rfl h
  | badStart | lengthMissing => exact ⟨_, rfl, takeError_spec s _⟩
  | lengthBelowMinimum | shorterThanDeclared => exact ⟨_, rfl, latchLength_takeError_spec s _⟩

theorem step_badChecksum {s : State} {t o : Byte} {p : List Byte} {ck : U16} {rest : List Byte}
    (hr : s.resetLine = false) (hparse : s.parse ≠ none) (hp : payloadFits p = true)
    (hrest : s.rest = frameBytes t o p ck ++ rest) (hck : ¬ goodChecksum s t o p ck) :
    ∃ u, step s = .next u ∧ EndedWith s .invalidChecksum u := by
  obtain ⟨u, hended, -, -, -, -, -, hu, -⟩ :=
    wrongChecksumIsInvalidChecksum s t o p ck ((payloadFits_iff p).mp hp) hck
  exact ⟨u, (step_frameBytes hr hparse hp hrest).trans hu, hended⟩

/-! ### R130's loop, read from the cursor on -/

theorem byteAt_drop (B : List Byte) (pos k : Nat) : byteAt (B.drop pos) k = byteAt B (pos + k) := by
  rw [byteAt, byteAt, List.getD_eq_getElem?_getD, List.getElem?_drop, List.getD_eq_getElem?_getD]

theorem slice_drop (B : List Byte) (pos L : Nat) : slice (B.drop pos) 0 L = slice B pos (pos + L) := by
  rw [slice, slice, List.drop_zero, List.take_drop]

/-- The loop reads nothing before the cursor. -/
theorem parseLoop_drop (reflectIn : Bool) (B : List Byte) (fuel pos : Nat) (frames : List (Byte × Byte × List Byte)) :
    parseLoop reflectIn B fuel pos frames = parseLoop reflectIn (B.drop pos) fuel 0 frames := by
  induction fuel generalizing B pos frames with
  | zero => rfl
  | succ fuel ih =>
    simp only [parseLoop, Nat.zero_add, Nat.sub_zero, List.length_drop, byteAt_drop, slice_drop, Nat.add_zero]
    rw [ih B (pos + _), ih (B.drop pos), List.drop_drop]

/-- The decoder's refusals, by the bytes (R122 to R124). -/
theorem decode_error_inv {cat : Catalog} {B : List Byte} {e : DecodeError} (hne : B ≠ [])
    (h : decode cat B = .error e) :
    (∃ b tail, B = b :: tail ∧ b ≠ Config.startByte ∧ e = .badStart) ∨
      (B = [Config.startByte] ∧ e = .lengthMissing) ∨
      ∃ len tail, B = Config.startByte :: len :: tail ∧ (len.toNat < 6 ∨ tail.length + 2 < len.toNat) ∧
        (e = .lengthBelowMinimum ∨ e = .shorterThanDeclared) := by
  match B with
  | [] => exact absurd rfl hne
  | b :: tail =>
    by_cases hb : b = Config.startByte
    · subst hb
      match tail with
      | [] => cases h; exact .inr (.inl ⟨rfl, rfl⟩)
      | len :: tail =>
        by_cases hmin : len.toNat < 6
        · rw [decode_belowMinimum cat tail hmin] at h
          cases h
          exact .inr (.inr ⟨len, tail, rfl, .inl hmin, .inl rfl⟩)
        · by_cases hlong : tail.length + 2 < len.toNat
          · rw [decode_shorterThanDeclared cat hmin hlong] at h
            cases h
            exact .inr (.inr ⟨len, tail, rfl, .inr hlong, .inr rfl⟩)
          · obtain ⟨t, o, p, ck, rest, hp, -, hframe⟩ :=
              exists_frameBytes_append (not_lt.mp hmin) (not_lt.mp hlong)
            rw [hframe, decode_frameBytes_append cat t o ck rest hp] at h
            cases h
    · rw [decode_badStart cat tail hb] at h
      cases h
      exact .inl ⟨b, tail, rfl, hb, rfl⟩

/-- Where the decoder refuses, the loop ends with the error that the machine reports. -/
theorem parseLoop_of_decode_error {cat : Catalog} {B : List Byte} {e : DecodeError} (reflectIn : Bool) (fuel : Nat)
    (frames : List (Byte × Byte × List Byte)) (hne : B ≠ []) (h : decode cat B = .error e) :
    parseLoop reflectIn B (fuel + 1) 0 frames = (frames, some (framingErrorOf e)) := by
  obtain ⟨b, tail, rfl, hb, rfl⟩ | ⟨rfl, rfl⟩ | ⟨len, tail, rfl, hlen, he⟩ := decode_error_inv hne h
  · exact if_pos hb
  · rfl
  · have herror : framingErrorOf e = .invalidMessageLengthMismatch := by
      rcases he with rfl | rfl <;> rfl
    have htwo : ¬ tail.length + 2 < 2 := by omega
    rw [herror]
    simp only [parseLoop, byteAt, Config.startByte, List.length_cons, List.getD_cons_zero, List.getD_cons_succ,
      Nat.sub_zero, Nat.zero_add, ne_eq, not_true_eq_false, if_false, htwo]
    by_cases hmin : len.toNat < 6
    · rw [if_pos hmin]
    · rw [if_neg hmin, if_pos (hlen.resolve_left hmin)]

/-- The loop's test for another frame, behind a frame (R128). -/
theorem startByte_behind_frameBytes_iff (t o : Byte) (p : List Byte) (ck : U16) (rest : List Byte) :
    p.length + 6 + rest.length > p.length + 6 ∧ byteAt (frameBytes t o p ck ++ rest) (p.length + 6) = 0x01 ↔
      rest.head? = some 0x01 := by
  rw [← frameBytes_length t o p ck, ← Nat.add_zero (frameBytes t o p ck).length, byteAt_append_right]
  cases rest <;> simp [byteAt]

/-- Over a frame the loop compares the checksum, keeps the fields, and goes on behind the frame at a start byte. -/
theorem parseLoop_frameBytes_append (reflectIn : Bool) (t o : Byte) {p : List Byte} (ck : U16) (rest : List Byte)
    (fuel : Nat) (frames : List (Byte × Byte × List Byte)) (hp : payloadFits p = true) :
    parseLoop reflectIn (frameBytes t o p ck ++ rest) (fuel + 1) 0 frames =
      if checksum reflectIn (headBytes t o p) ≠ ck then (frames, some .invalidChecksum)
      else if rest.head? = some 0x01 then parseLoop reflectIn rest fuel 0 (frames ++ [(t, o, p)])
      else (frames ++ [(t, o, p)], none) := by
  have hstart : byteAt (frameBytes t o p ck ++ rest) 0 = 0x01 := rfl
  have hdeclared : (byteAt (frameBytes t o p ck ++ rest) 1).toNat = p.length + 6 := lengthByte_toNat hp
  have hframe : slice (frameBytes t o p ck ++ rest) 0 (p.length + 6) = frameBytes t o p ck :=
    List.take_left' (frameBytes_length t o p ck)
  have htype : byteAt (frameBytes t o p ck) 2 = t := rfl
  have hopt : byteAt (frameBytes t o p ck) 3 = o := rfl
  have hhead : slice (frameBytes t o p ck) 0 (p.length + 4) = headBytes t o p :=
    List.take_left' (headBytes_length t o p)
  have hword : u16le (byteAt (frameBytes t o p ck) (p.length + 4)) (byteAt (frameBytes t o p ck) (p.length + 5)) =
      ck := memRead2_frameBytes t o p ck
  have honward : ∀ seen, parseLoop reflectIn (frameBytes t o p ck ++ rest) fuel (p.length + 6) seen =
      parseLoop reflectIn rest fuel 0 seen := fun seen => by
    rw [parseLoop_drop, drop_frameBytes_append]
  simp only [parseLoop, Nat.zero_add, Nat.sub_zero, List.length_append, frameBytes_length, hstart, hdeclared, hframe,
    htype, hopt, Nat.reduceSubDiff, hhead, slice_frameBytes, hword, honward, startByte_behind_frameBytes_iff]
  rw [if_neg (not_not.mpr rfl), if_neg (by omega), if_neg (by omega), if_neg (by omega)]

/-! ### The passes against the loop (R130, R133) -/

/-- What a PARSE in progress in `s` leaves when it returns with the further records `frames` and the error `e`. -/
structure ParseReturns (s : State) (frames : List FrameRecord) (e : Option ProtocolError) (u : State) : Prop where
  setting : SameSetting s u
  parse : u.parse = none
  result : u.results.getLast? = some (.parsed { frames := s.records ++ frames, error := e })
  outcomes : ∀ f ∈ frames, OutcomeSelected s.catalog f
  calls : HandedOver s frames u

/-- The triple of R127 that a record holds. -/
def FrameRecord.triple (f : FrameRecord) : Byte × Byte × List Byte := (f.msgType, f.optionBits, f.payload)

theorem EndedWith.parseReturns {s u : State} {e : ProtocolError} (h : EndedWith s e u) :
    ParseReturns s [] (some e) u where
  setting := h.setting
  parse := h.parse
  result := by rw [h.results, List.getLast?_concat, List.append_nil]
  outcomes := nofun
  calls := handedOver_nil h.handlerCalls

theorem FramePass.parseReturns {s u : State} {x : FrameRecord} {rest : List Byte} (h : FramePass s x rest u)
    (hother : rest.head? ≠ some 0x01) : ParseReturns s [x] none u := by
  obtain ⟨hparse, -, hresult⟩ := h.finished hother
  exact ⟨h.setting, hparse, hresult, List.forall_mem_singleton.mpr h.outcome, h.calls⟩

/-- A frame, and then what the PARSE returns behind it. -/
theorem FramePass.cons {s t u : State} {x : FrameRecord} {rest : List Byte} {frames : List FrameRecord}
    {e : Option ProtocolError} (h : FramePass s x rest t) (hstart : rest.head? = some 0x01)
    (k : ParseReturns t frames e u) : ParseReturns s (x :: frames) e u := by
  have hcat := h.setting.catalog
  have hrecords : t.records = s.records ++ [x] := by rw [State.records, (h.onward hstart).1]; rfl
  refine ⟨h.setting.trans k.setting, k.parse, ?_, List.forall_mem_cons.mpr ⟨h.outcome, ?_⟩,
    h.calls.append hcat k.calls⟩
  · rw [k.result, hrecords, List.append_assoc]
    rfl
  · rw [← hcat]
    exact k.outcomes

theorem run_succ_of_step {s t : State} {k : Nat} (h : step s = .next t) : core.run (k + 1) s = core.run k t := by
  have hstep : core.step s = .next t := h
  simp only [Host.Core.run, hstep]

/-- The passes from `s` on return what the loop returns over the bytes from the cursor on, given `fuel`
passes; `k` counts the passes. -/
structure PassesRefine (s : State) (fuel k : Nat) (frames : List FrameRecord) (e : Option ProtocolError) (u : State) :
    Prop where
  run : core.run k s = .next u
  returns : ParseReturns s frames e u
  loop : ∀ seen, parseLoop s.reflectIn s.rest fuel 0 seen = (seen ++ frames.map FrameRecord.triple, e)
  passes : k ≤ s.rest.length / 6 + 1
  frames : frames.length ≤ s.rest.length / 6

theorem PassesRefine.of_error {s u : State} {e : ProtocolError} {fuel : Nat} (hstep : step s = .next u)
    (hended : EndedWith s e u) (hloop : ∀ seen, parseLoop s.reflectIn s.rest fuel 0 seen = (seen, some e)) :
    PassesRefine s fuel 1 [] (some e) u where
  run := run_succ_of_step hstep
  returns := hended.parseReturns
  loop seen := by rw [hloop, List.map_nil, List.append_nil]
  passes := Nat.le_add_left 1 _
  frames := Nat.zero_le _

/-- The last pass accepts a frame behind which no start byte stands. -/
theorem PassesRefine.of_last {s u : State} {x : FrameRecord} {rest : List Byte} {fuel : Nat} (hstep : step s = .next u)
    (hpass : FramePass s x rest u) (hother : rest.head? ≠ some 0x01) (hlength : rest.length + 6 ≤ s.rest.length)
    (hloop : ∀ seen, parseLoop s.reflectIn s.rest fuel 0 seen = (seen ++ [x.triple], none)) :
    PassesRefine s fuel 1 [x] none u where
  run := run_succ_of_step hstep
  returns := hpass.parseReturns hother
  loop := hloop
  passes := Nat.le_add_left 1 _
  frames := by rw [List.length_singleton]; omega

/-- A pass that accepts a frame with a start byte behind it, and then the passes from there on. -/
theorem PassesRefine.cons {s t u : State} {x : FrameRecord} {rest : List Byte} {fuel k : Nat}
    {frames : List FrameRecord} {e : Option ProtocolError} (hstep : step s = .next t) (hpass : FramePass s x rest t)
    (hstart : rest.head? = some 0x01) (hlength : rest.length + 6 ≤ s.rest.length)
    (hloop : ∀ seen, parseLoop s.reflectIn s.rest (fuel + 1) 0 seen =
      parseLoop s.reflectIn rest fuel 0 (seen ++ [x.triple]))
    (h : PassesRefine t fuel k frames e u) : PassesRefine s (fuel + 1) (k + 1) (x :: frames) e u := by
  have hrest : t.rest = rest := (hpass.onward hstart).2
  have hpasses := h.passes
  have hframes := h.frames
  rw [hrest] at hpasses hframes
  refine ⟨(run_succ_of_step hstep).trans h.run, hpass.cons hstart h.returns, fun seen => ?_, by omega, ?_⟩
  · rw [hloop, ← hpass.setting.reflectIn, ← hrest, h.loop, List.append_assoc]
    rfl
  · rw [List.length_cons]
    omega

/-- By induction on the fuel, by what the fetch at the cursor finds: no frame, a frame with a wrong checksum, the last
frame, or a frame with another one behind it. -/
theorem exists_passesRefine {fuel : Nat} {s : State} (hr : s.resetLine = false) (hparse : s.parse ≠ none)
    (hne : s.rest ≠ []) (hfuel : s.rest.length ≤ fuel) : ∃ k frames e u, PassesRefine s fuel k frames e u := by
  induction fuel generalizing s with
  | zero => exact absurd (List.length_eq_zero_iff.mp (Nat.le_zero.mp hfuel)) hne
  | succ fuel ih =>
    cases hf : s.fetch with
    | error e =>
      have hinside : s.pos < s.rxb.length := by
        rw [← Nat.sub_pos_iff_lt, ← rest_length]
        exact List.length_pos_iff.mpr hne
      obtain ⟨u, hu, hended⟩ := rejectFrame_spec s (fun he => fetch_ne_noBytes hinside (he ▸ hf))
      exact ⟨1, [], _, u, .of_error ((step_fetch_error hr hparse hf).trans hu) hended fun seen =>
        parseLoop_of_decode_error _ _ _ hne hf⟩
    | ok fetched =>
      obtain ⟨i, rest⟩ := fetched
      obtain ⟨t, o, p, ck, hp, -, hrest⟩ := (decode_eq_ok_iff _ _ _ _).mp hf
      have hlength : rest.length + 6 ≤ s.rest.length := by
        rw [hrest, List.length_append, frameBytes_length]
        omega
      have hloop := fun seen => parseLoop_frameBytes_append s.reflectIn t o ck rest fuel seen hp
      rw [← hrest] at hloop
      by_cases hck : goodChecksum s t o p ck
      · obtain ⟨v, out, hstep, hpass⟩ := step_framePass hr hparse hp hrest hck
        have hright : ¬ checksum s.reflectIn (headBytes t o p) ≠ ck := not_not.mpr hck.symm
        by_cases hstart : rest.head? = some 0x01
        · obtain ⟨hparse', hrest'⟩ := hpass.onward hstart
          obtain ⟨k, frames, e, u, hrefine⟩ := ih (s := v) (hpass.setting.resetLine.trans hr)
            (by rw [hparse']; exact Option.some_ne_none _) (by rw [hrest']; rintro rfl; cases hstart)
            (by rw [hrest']; omega)
          exact ⟨k + 1, _, e, u, .cons hstep hpass hstart hlength
            (fun seen => (hloop seen).trans ((if_neg hright).trans (if_pos hstart))) hrefine⟩
        · exact ⟨1, _, none, v, .of_last hstep hpass hstart hlength
            fun seen => (hloop seen).trans ((if_neg hright).trans (if_neg hstart))⟩
      · obtain ⟨u, hu, hended⟩ := step_badChecksum hr hparse hp hrest hck
        exact ⟨1, [], _, u, .of_error hu hended fun seen => (hloop seen).trans (if_pos fun he => hck he.symm)⟩

/-- Settles O54: the empty chunk returns at once; any other is read from its first byte. -/
theorem parsePassesRefineTheNormativeLoop : Obligations.ParsePassesRefineTheNormativeLoop := by
  intro s chunk hidle hr hchunk
  by_cases hempty : chunk = []
  · subst hempty
    exact ⟨_, _, { frames := [], error := none }, 0, [], exec_parse_nil hidle, Nat.zero_le _, rfl, hidle, rfl,
      List.getLast?_concat, rfl, Nat.zero_le _, nofun, (List.append_nil _).symm, rfl⟩
  · obtain ⟨k, frames, e, u, hrun, hreturns, hloop, hpasses, hframes⟩ :=
      exists_passesRefine (s := s.startParse chunk) (fuel := chunk.length) hr (Option.some_ne_none _) hempty le_rfl
    obtain ⟨calls, hcalls, htriples⟩ := hreturns.calls
    refine ⟨_, u, { frames := frames, error := e }, k, calls, exec_parse_start hidle hchunk hempty, hpasses, hrun,
      hreturns.parse, hreturns.setting.requests, hreturns.result, ?_, hframes, hreturns.outcomes, hcalls, htriples⟩
    rw [parseReference, if_neg (mt List.length_eq_zero_iff.mp hempty)]
    exact (hloop []).symm

/-! ### Composed frames (R129, R134, R155) -/

theorem composeValue_head? {reflectIn : Bool} {a : ComposeRequest} {f : List Byte}
    (h : composeValue reflectIn a = .bytes f) : f.head? = some 0x01 := by
  obtain ⟨-, rfl⟩ := composeValue_eq_bytes h
  rfl

/-- A PARSE of a chunk that begins with a composed frame starts. -/
theorem exec_parse_composed {s : State} {a : ComposeRequest} {f : List Byte} (rest : List Byte) (hidle : s.parse = none)
    (hchunk : chunkAllowed s (f ++ rest)) (hf : composeValue s.reflectIn a = .bytes f) :
    exec (.parse (f ++ rest)) s = .next (s.startParse (f ++ rest)) := by
  refine exec_parse_start hidle hchunk (List.append_ne_nil_of_left_ne_nil ?_ rest)
  rintro rfl
  cases composeValue_head? hf

/-- A pass over a composed frame, whatever stands behind it, delivers the request's triple (R134 a). -/
theorem step_composed {s : State} {a : ComposeRequest} {f rest : List Byte} (hr : s.resetLine = false)
    (hparse : s.parse ≠ none) (hf : composeValue s.reflectIn a = .bytes f) (hrest : s.rest = f ++ rest) :
    ∃ u x, step s = .next u ∧ x.triple = (a.msgType, a.optionBits, a.payload) ∧ FramePass s x rest u := by
  obtain ⟨hp, rfl⟩ := composeValue_eq_bytes hf
  obtain ⟨u, out, hstep, hpass⟩ := step_framePass hr hparse hp hrest rfl
  exact ⟨u, _, hstep, rfl, hpass⟩

/-- Settles O59: behind the frame no start byte stands, so the first pass is the last. -/
theorem trailingBytesAreDropped : Obligations.TrailingBytesAreDropped := by
  intro s a f b junk hidle hr hchunk hf hb
  obtain ⟨u, x, hstep, htriple, hpass⟩ :=
    step_composed (s := s.startParse (f ++ b :: junk)) hr (Option.some_ne_none _) hf rfl
  obtain ⟨hparse, hrxb, hresult⟩ := hpass.finished fun h => hb (Option.some.inj h)
  exact ⟨_, u, x, exec_parse_composed _ hidle hchunk hf, hstep, hparse, hrxb, hresult, htriple⟩

/-- Settles O55: the one pass over the frame alone delivers the triple, and the configuration that composed it is
unchanged. -/
theorem parseOfComposeDeliversTheTriple : Obligations.ParseOfComposeDeliversTheTriple := by
  intro s t o p hp hidle hr
  have hf := composeValue_fits (b := s.reflectIn) (r := { msgType := t, optionBits := o, payload := p }) hp
  refine ⟨_, hf, fun hchunk => ?_⟩
  have hstart := exec_parse_composed [] hidle (by rwa [List.append_nil]) hf
  rw [List.append_nil] at hstart
  obtain ⟨u, x, hstep, htriple, hpass⟩ :=
    step_composed (s := s.startParse (composeBytes s.reflectIn t o p)) (rest := []) hr (Option.some_ne_none _) hf
      (List.append_nil _).symm
  obtain ⟨rfl, rfl, rfl⟩ : x.msgType = t ∧ x.optionBits = o ∧ x.payload = p := by
    simpa [FrameRecord.triple] using htriple
  obtain ⟨hparse, -, hresult⟩ := hpass.finished nofun
  obtain ⟨hhandled, hnobody⟩ := hpass.outcome
  exact ⟨_, u, x, hstart, hstep, hparse, hresult, rfl, rfl, rfl, hhandled, hnobody,
    (congrArg (composeValue · _) hpass.setting.reflectIn).trans hf⟩

/-- Settles O56: behind the first frame the start byte of the second one stands, and behind that one nothing. -/
theorem concatenatedFramesAreDeliveredInOrder : Obligations.ConcatenatedFramesAreDeliveredInOrder := by
  intro s a b f g hidle hr hchunk hf hg
  obtain ⟨w, x, hfirst, hx, hpassX⟩ := step_composed (s := s.startParse (f ++ g)) hr (Option.some_ne_none _) hf rfl
  have hg' : composeValue w.reflectIn b = .bytes g := (congrArg (composeValue · b) hpassX.setting.reflectIn).trans hg
  obtain ⟨hparse, hrest⟩ := hpassX.onward (composeValue_head? hg)
  obtain ⟨u, y, hsecond, hy, hpassY⟩ := step_composed (rest := []) (hpassX.setting.resetLine.trans hr)
    (by rw [hparse]; exact Option.some_ne_none _) hg' (by rw [hrest, List.append_nil])
  have hreturns := hpassX.cons (composeValue_head? hg) (hpassY.parseReturns nofun)
  exact ⟨_, u, x, y, exec_parse_composed g hidle hchunk hf, (run_succ_of_step hfirst).trans (run_succ_of_step hsecond),
    hreturns.parse, hreturns.result, hx, hy⟩

end Sys2Proof.Machine
end

section
/-! COMPOSE (O15, O16). Its two cases on the state, and the frame written out byte by byte. -/

namespace Sys2Proof.Machine

/-- R152: a refused request leaves nothing but its result. -/
theorem compose_tooLong (s : State) {r : ComposeRequest} (h : 249 < r.payload.length) :
    s.compose r = s.returns (.composed .payloadTooLong) := by
  rw [State.compose, composeValue_tooLong h]

/-- R150, R154: a request that fits writes the `CRC` latch, `TXB`, the write queue and the results, and nothing else. -/
theorem compose_fits (s : State) {r : ComposeRequest} (h : r.payload.length ≤ 249) :
    s.compose r =
      { s with
        latches := { s.latches with crc := checksum s.reflectIn (headBytes r.msgType r.optionBits r.payload) }
        txb := composeBytes s.reflectIn r.msgType r.optionBits r.payload
        txQueue := s.txQueue ++ [composeBytes s.reflectIn r.msgType r.optionBits r.payload]
        results :=
          s.results ++ [.composed (.bytes (composeBytes s.reflectIn r.msgType r.optionBits r.payload))] } := by
  rw [State.compose, composeValue_fits h]
  rfl

theorem lo8_eq_ofNat (c : U16) : lo8 c = BitVec.ofNat 8 (c.toNat % 256) :=
  BitVec.eq_of_toNat_eq (by simp [lo8])

/-- R150: the head, the payload and the checksum low byte first, the two checksum bytes as remainder and quotient. -/
theorem frameBytes_eq_ofNat (t o : Byte) (p : List Byte) (c : U16) :
    frameBytes t o p c =
      [0x01, BitVec.ofNat 8 (p.length + 6), t, o] ++ p ++
        [BitVec.ofNat 8 (c.toNat % 256), BitVec.ofNat 8 (c.toNat / 256)] := by
  rw [frameBytes, appendWord, headBytes_eq, lo8_eq_ofNat, hi8_eq_ofNat]

/-- Settles O15: a payload that fits is composed into the frame of its head's checksum, which has the wire's format. -/
theorem composeBuildsTheFrame : Obligations.ComposeBuildsTheFrame := by
  intro s t o p hp
  have hnext : exec (.compose t o p) s = .next (s.compose { msgType := t, optionBits := o, payload := p }) := rfl
  rw [compose_fits s hp] at hnext
  exact ⟨checksum s.reflectIn (headBytes t o p), composeBytes s.reflectIn t o p, hnext,
    congrArg (checksum s.reflectIn) (headBytes_eq t o p), frameBytes_eq_ofNat t o p _, frameBytes_length t o p _,
    Laws.FrameShape.framed_frameBytes t o p _ ((payloadFits_iff p).mpr hp)⟩

/-- Settles O16: COMPOSE of a payload that is too long returns the refusal. -/
theorem composeRefusesLongPayloads : Obligations.ComposeRefusesLongPayloads := by
  intro s t o p hp
  exact congrArg Host.Outcome.next (compose_tooLong s (r := { msgType := t, optionBits := o, payload := p }) hp)

end Sys2Proof.Machine
end

section
/-! The Option Unpacker (O36 to O40). The layers: a bit of the option byte and its fields, the taps as fixed bits and
fields, and PACK as a sum of bits, which a byte and its eight bits pass through both ways. -/

namespace Sys2Proof.Machine

/-! ### Bits and fields (R161, R162) -/

theorem optBit_eq_decide (o : Byte) (i : Nat) : optBit o i = decide ((o.toNat >>> i) % 2 = 1) := by
  rw [optBit, BitVec.getLsbD, Nat.testBit_eq_decide_div_mod_eq, Nat.shiftRight_eq_div_pow]

theorem optBit_toNat (o : Byte) (i : Nat) : (optBit o i).toNat = o.toNat / 2 ^ i % 2 := Nat.toNat_testBit _ _

theorem optBit_eq_iff (o : Byte) (i : Nat) (b : Bool) : optBit o i = b ↔ o.toNat / 2 ^ i % 2 = b.toNat := by
  rw [← optBit_toNat]
  cases optBit o i <;> cases b <;> decide

theorem testBit_optField (o : Byte) (lo : Nat) {i w : Nat} (h : i < w) :
    (optField o lo w).testBit i = optBit o (lo + i) := by
  rw [optField, Nat.testBit_mod_two_pow, decide_eq_true h, Bool.true_and, Nat.testBit_shiftRight]
  rfl

/-- Settles O37: OPT.BIT returns the tested bit. -/
theorem optBitReadsOneBit : Obligations.OptBitReadsOneBit := by
  intro s o i
  rw [← optBit_eq_decide]
  rfl

/-- Settles O38: a field that lies inside the byte is returned, and its bits are the byte's; OPT.FIELD's own check refuses
any other. -/
theorem optFieldReadsAnyField : Obligations.OptFieldReadsAnyField := by
  intro s o lo w
  refine ⟨fun hw hlo => ⟨if_pos ⟨hw, hlo⟩, fun i hi => testBit_optField o lo hi⟩, fun hout => if_neg ?_⟩
  omega

/-! ### The taps (R163 to R167) -/

theorem ledState_eq (o : Byte) : ledState o = decide (o.toNat % 2 = 1) := optBit_eq_decide o 0

theorem oneRow_eq (o : Byte) : oneRow o = decide (o.toNat / 16 % 2 = 1) := by
  rw [oneRow, optBit_eq_decide, Nat.shiftRight_eq_div_pow]

/-- R166: the row bit is clear and the payload holds more than one row record. -/
theorem twoRows_iff (o : Byte) (n : Nat) : twoRows o n = true ↔ o.toNat / 16 % 2 = 0 ∧ 13 < n := by
  have hclear : (!oneRow o) = true ↔ o.toNat / 16 % 2 = 0 := by
    rw [oneRow_eq, Bool.not_eq_true', decide_eq_false_iff_not, Nat.mod_two_not_eq_one]
  rw [twoRows, Bool.and_eq_true, decide_eq_true_iff]
  exact and_congr hclear Iff.rfl

/-- Settles O39: two taps return a bit, and two the field of bits 2 to 0, which is the remainder by 8 as it stands. -/
theorem optionTapsReadTheirBits : Obligations.OptionTapsReadTheirBits := by
  intro s o
  rw [← ledState_eq, ← oneRow_eq]
  exact ⟨rfl, rfl, rfl, rfl⟩

/-- Settles O40: TWO_ROWS returns the conjunction of R166. -/
theorem twoRowsNeedsClearBitAndLongPayload : Obligations.TwoRowsNeedsClearBitAndLongPayload :=
  fun _ o n => ⟨twoRows o n, rfl, twoRows_iff o n⟩

/-! ### UNPACK and PACK (R160) -/

theorem bits_toNat_le_one (b : OptionBits) :
    b.b0.toNat ≤ 1 ∧ b.b1.toNat ≤ 1 ∧ b.b2.toNat ≤ 1 ∧ b.b3.toNat ≤ 1 ∧ b.b4.toNat ≤ 1 ∧ b.b5.toNat ≤ 1 ∧
      b.b6.toNat ≤ 1 ∧ b.b7.toNat ≤ 1 :=
  ⟨b.b0.toNat_le, b.b1.toNat_le, b.b2.toNat_le, b.b3.toNat_le, b.b4.toNat_le, b.b5.toNat_le, b.b6.toNat_le,
    b.b7.toNat_le⟩

/-- The sum of `optPack` is at most 255, so the byte holds it whole. -/
theorem optPack_toNat (b : OptionBits) :
    (optPack b).toNat =
      b.b0.toNat + 2 * b.b1.toNat + 4 * b.b2.toNat + 8 * b.b3.toNat + 16 * b.b4.toNat + 32 * b.b5.toNat +
        64 * b.b6.toNat + 128 * b.b7.toNat := by
  have hbits := bits_toNat_le_one b
  rw [optPack, BitVec.toNat_ofNat]
  omega

/-- A byte is the sum of its binary digits. -/
theorem optPack_optUnpack (o : Byte) : optPack (optUnpack o) = o := by
  apply BitVec.eq_of_toNat_eq
  have hlt := o.isLt
  simp only [optPack_toNat, optUnpack, optBit_toNat]
  omega

/-- Binary digits are unique, so packed bits are read back. -/
theorem optUnpack_optPack (b : OptionBits) : optUnpack (optPack b) = b := by
  have hbits := bits_toNat_le_one b
  cases b
  simp only [optUnpack, OptionBits.mk.injEq, optBit_eq_iff, optPack_toNat] at hbits ⊢
  omega

/-- Settles O36: UNPACK reads bit by bit, PACK is the sum, and each undoes the other. -/
theorem optionBitsUnpackAndPack : Obligations.OptionBitsUnpackAndPack := by
  intro s o b
  refine ⟨optUnpack o, optPack b, rfl, rfl, ?_, optPack_toNat b, ?_, ?_⟩
  · simp only [← optBit_eq_decide]
    rfl
  · exact congrArg (fun v => Host.Outcome.next (s.returns (.byte v))) (optPack_optUnpack o)
  · exact congrArg (fun u => Host.Outcome.next (s.returns (.bits u))) (optUnpack_optPack b)

end Sys2Proof.Machine
end

section
/-! The Catalog and the Dispatcher (O41, O42, O43, O60, O34). The layers: lookups in the catalog as membership of its
entries, what each handler's contract decodes, what the operation DISPATCH does with a contract and without one, and the
frames that reach the default arm. -/

namespace Sys2Proof.Machine

/-! ### Lookups as membership (R181 to R183) -/

theorem Catalog.name_cons (code c : Byte) (m : MsgName) (rest : Catalog) :
    Catalog.name ((code, m) :: rest) c = if code = c then m else rest.name c := rfl

theorem Catalog.code_cons (code : Byte) (m n : MsgName) (rest : Catalog) :
    Catalog.code ((code, m) :: rest) n = if m = n then some code else rest.code n := rfl

/-- R29: the first entry of a code is its only one. -/
theorem Catalog.name_eq_of_mem {cat : Catalog} {c : Byte} {m : MsgName} (hcodes : (cat.map Prod.fst).Nodup)
    (hmem : (c, m) ∈ cat) : cat.name c = m := by
  induction cat with
  | nil => nomatch hmem
  | cons e rest ih =>
    obtain ⟨code, m'⟩ := e
    obtain ⟨hfresh, hrest⟩ := List.nodup_cons.mp hcodes
    rw [Catalog.name_cons]
    rcases List.mem_cons.mp hmem with heq | hlater
    · obtain ⟨rfl, rfl⟩ := Prod.mk.inj heq
      exact if_pos rfl
    · have hne : code ≠ c := fun h => hfresh (List.mem_map.mpr ⟨_, hlater, h.symm⟩)
      rw [if_neg hne]
      exact ih hrest hlater

/-- Whatever CATALOG.NAME returns but the sentinel stands in the catalog. -/
theorem Catalog.mem_of_name_eq {cat : Catalog} {c : Byte} {n : MsgName} (hn : n ≠ .undocumented)
    (h : cat.name c = n) : (c, n) ∈ cat := by
  by_contra hmem
  induction cat with
  | nil => exact hn h.symm
  | cons e rest ih =>
    obtain ⟨code, m⟩ := e
    obtain ⟨hhead, hlater⟩ := not_or.mp (mt List.mem_cons.mpr hmem)
    rw [Catalog.name_cons] at h
    split at h
    · next hcode => exact hhead (by rw [hcode, h])
    · exact ih h hlater

/-- CATALOG.CODE finds the entry of a name, which is the only one when no two codes share a name (R29, R183). -/
theorem Catalog.code_eq_some_iff_mem {cat : Catalog} {c : Byte} {n : MsgName} (hnames : (cat.map Prod.snd).Nodup) :
    cat.code n = some c ↔ (c, n) ∈ cat := by
  induction cat with
  | nil => simp [Catalog.code]
  | cons e rest ih =>
    obtain ⟨code, m⟩ := e
    obtain ⟨hfresh, hrest⟩ := List.nodup_cons.mp hnames
    rw [Catalog.code_cons, List.mem_cons, Prod.mk.injEq]
    by_cases hm : m = n
    · have hlater : (c, n) ∉ rest := fun h => hfresh (List.mem_map.mpr ⟨_, h, hm.symm⟩)
      simp [hm, hlater, eq_comm]
    · simp [hm, Ne.symm hm, ih hrest]

/-- What an admissible catalog keeps for its lookups: codes and names without repetition (R29, R182). -/
theorem Catalog.nodup_of_admissible {cat : Catalog} (h : cat.admissible = true) :
    (cat.map Prod.fst).Nodup ∧ (cat.map Prod.snd).Nodup := by
  simp only [Catalog.admissible, Bool.and_eq_true, decide_eq_true_eq] at h
  obtain ⟨⟨⟨-, hnames⟩, hcodes⟩, -⟩ := h
  exact ⟨hcodes, hnames⟩

/-- Settles O41: CATALOG.NAME returns the lookup, which finds the entry of a code, or the sentinel. -/
theorem catalogNameIsTheEntryOrTheSentinel : Obligations.CatalogNameIsTheEntryOrTheSentinel := fun s c =>
  ⟨s.catalog.name c, rfl, name_of_absent, fun _ => Catalog.name_eq_of_mem⟩

/-- Settles O42: both lookups say that the pair is an entry of the catalog. -/
theorem catalogCodeInvertsCatalogName : Obligations.CatalogCodeInvertsCatalogName := by
  refine fun s n => ⟨fun hn => ⟨s.catalog.code n, if_neg hn, fun hadm c => ?_⟩, fun hn => if_pos hn⟩
  obtain ⟨hcodes, hnames⟩ := Catalog.nodup_of_admissible hadm
  exact (Catalog.code_eq_some_iff_mem hnames).trans ⟨Catalog.name_eq_of_mem hcodes, Catalog.mem_of_name_eq hn⟩

/-! ### What the contracts decode (R201 to R209, R211) -/

section Contracts
variable {o : Byte} {p : List Byte}

theorem setRTCContract_malformed (h : p.length < 8 ∨ p.length = 9) : setRTCContract p = .malformed := if_pos h

theorem setRTCContract_accept (h : p.length = 8 ∨ 10 ≤ p.length) :
    setRTCContract p = .accept (.setRTC (rtcFields p)) := if_neg (by omega)

theorem toNat_u16be (hi lo : Byte) : (u16be hi lo).toNat = hi.toNat * 256 + lo.toNat :=
  (toNat_u16le lo hi).trans (by omega)

theorem rtcFields_year_toNat (p : List Byte) :
    (rtcFields p).year.toNat = (p.getD 0 0).toNat * 256 + (p.getD 1 0).toNat := toNat_u16be _ _

theorem setLEDContract_eq (o : Byte) : setLEDContract o = .accept (.setLED (decide (o.toNat % 2 = 1))) := by
  rw [setLEDContract, ledState_eq]

theorem setVibrateContract_malformed (h : p.length < 6) : setVibrateContract p = .malformed := if_pos h

theorem setVibrateContract_accept (h : 6 ≤ p.length) :
    setVibrateContract p =
      .accept (.setVibrate
        { action := p.getD 0 0, onTime := memRead2 p 1, offTime := memRead2 p 3, cycles := p.getD 5 0 }) :=
  if_neg (Nat.not_lt.mpr h)

theorem memRead2_toNat (B : List Byte) (a : Nat) :
    (memRead2 B a).toNat = (B.getD a 0).toNat + 256 * (B.getD (a + 1) 0).toNat := toNat_u16le _ _

theorem enableButtonContract_malformed (h : p.length < 5) : enableButtonContract p = .malformed := if_pos h

theorem enableButtonContract_decoded (h : 5 ≤ p.length) :
    enableButtonContract p =
      { view := some (.enableButton { mode := p.getD 0 0, buttonId := p.getD 1 0, pressType := p.getD 2 0 }
          (p.getD 3 0) (p.getD 4 0))
        outcome := if p.getD 3 0 = 0x34 then .ok else .failed (.notImplemented .unsupportedCallbackKind) } :=
  if_neg (Nat.not_lt.mpr h)

theorem disableButtonContract_malformed (h : p.length < 3) : disableButtonContract p = .malformed := if_pos h

theorem disableButtonContract_accept (h : 3 ≤ p.length) :
    disableButtonContract p =
      .accept (.disableButton { mode := p.getD 0 0, buttonId := p.getD 1 0, pressType := p.getD 2 0 }) :=
  if_neg (Nat.not_lt.mpr h)

theorem writeLCDContract_malformed
    (h : p.length < 13 ∨ (o.toNat / 16 % 2 = 0 ∧ 13 < p.length ∧ p.length < 26)) :
    writeLCDContract o p = .malformed :=
  if_pos (h.imp_right fun ⟨hclear, hlong, hshort⟩ => ⟨(twoRows_iff o p.length).mpr ⟨hclear, hlong⟩, hshort⟩)

theorem writeLCDContract_oneRow (h : p.length = 13 ∨ (o.toNat / 16 % 2 = 1 ∧ 13 < p.length)) :
    writeLCDContract o p =
      .accept (.writeLCD (o.toNat % 8) { index := p.getD 0 0, bits := (p.take 13).drop 1 } none) := by
  have hrows : ¬ twoRows o p.length = true := by rw [twoRows_iff]; omega
  have hlong : ¬ p.length < 13 := by omega
  rw [writeLCDContract, if_neg (not_or.mpr ⟨hlong, fun k => hrows k.1⟩), if_neg hrows]
  rfl

theorem writeLCDContract_twoRows (h : o.toNat / 16 % 2 = 0 ∧ 26 ≤ p.length) :
    writeLCDContract o p =
      .accept (.writeLCD (o.toNat % 8) { index := p.getD 0 0, bits := (p.take 13).drop 1 }
        (some { index := p.getD 13 0, bits := (p.take 26).drop 14 })) := by
  have hrows : twoRows o p.length = true := (twoRows_iff o p.length).mpr ⟨h.1, by omega⟩
  rw [writeLCDContract, if_neg (by omega), if_pos hrows]
  rfl

theorem updateLCDContract_eq (o : Byte) : updateLCDContract o = .accept (.updateLCD (o.toNat % 8)) := rfl

end Contracts

/-! ### The operation DISPATCH (R186, R187) -/

/-- A name with a contract: its handler runs, with every COMPOSE it asks for, and its outcome is returned. -/
theorem exec_dispatch_handled {s : State} {t o : Byte} {p : List Byte} {n : MsgName} {c : Contract}
    (hn : s.catalog.name t = n) (hc : contractOf n o p = some c) :
    ∃ v h, exec (.dispatch t o p) s = .next (v.returns (.dispatched (.handled n h))) ∧
      Composed (s.handOver { name := n, optionBits := o, payload := p, view := c.view }) (s.asks n) v ∧
      (c.outcome ≠ .ok ∨ AllFit (s.asks n) → h = c.outcome) := by
  have harm : s.dispatch t o p = s.runHandler n c o p := by rw [dispatch_eq, hn, hc]
  obtain ⟨hcomposed, h, hout, hfit⟩ := runHandler_spec s n c o p
  refine ⟨_, h, ?_, hcomposed, hfit⟩
  rw [← hout, ← harm]
  rfl

/-- A name without one: the default arm returns the name and changes nothing. -/
theorem exec_dispatch_default {s : State} {t o : Byte} {p : List Byte}
    (hc : contractOf (s.catalog.name t) o p = none) :
    exec (.dispatch t o p) s = .next (s.returns (.dispatched (.notImplemented (s.catalog.name t)))) := by
  have harm : s.dispatch t o p = (s, .notImplemented (s.catalog.name t)) := by rw [dispatch_eq, hc]
  change Host.Outcome.next _ = _
  rw [harm]

theorem exists_contractOf {n : MsgName} (o : Byte) (p : List Byte) (h : n ∈ handlers) :
    ∃ c, contractOf n o p = some c :=
  Option.isSome_iff_exists.mp ((contractOf_isSome n o p).mpr h)

theorem contractOf_eq_none {n : MsgName} (o : Byte) (p : List Byte) (h : n ∉ handlers) : contractOf n o p = none :=
  Option.not_isSome_iff_eq_none.mp (mt (contractOf_isSome n o p).mp h)

/-- Settles O43: the catalog's name has a handler, whose arm runs, or has none. -/
theorem dispatchSelectsTheArmByName : Obligations.DispatchSelectsTheArmByName := by
  intro s t o p
  by_cases hmem : s.catalog.name t ∈ handlers
  · obtain ⟨c, hc⟩ := exists_contractOf o p hmem
    obtain ⟨v, h, hexec, hv, -⟩ := exec_dispatch_handled rfl hc
    refine ⟨_, hexec, fun _ => ?_, fun hno => absurd hmem hno⟩
    exact ⟨s.asks _, h, _, handlerWillAsk_asks s _,
      ⟨hv.setting.catalog, hv.setting.rxMax, hv.setting.reflectIn, hv.setting.resetLine, hv.setting.requests⟩,
      hv.pos, hv.rxb, hv.parse, hv.txb, hv.txQueue, congrArg (· ++ [_]) hv.results, hv.handlerCalls, rfl, rfl, rfl,
      hv.handlerAsks⟩
  · exact ⟨_, exec_dispatch_default (contractOf_eq_none o p hmem), fun hyes => absurd hyes hmem, fun _ => rfl⟩

/-- Settles O60: the hand-over carries what the contract of the name decodes. -/
theorem dispatchHandsTheDecodedFieldsToItsHandler : Obligations.DispatchHandsTheDecodedFieldsToItsHandler := by
  intro s t o p n hn hmem
  obtain ⟨c, hc⟩ := exists_contractOf o p hmem
  obtain ⟨v, h, hexec, hv, -⟩ := exec_dispatch_handled hn hc
  have hview : ∀ {m : MsgName} {c₁ c₂ : Contract}, n = m → c₁ = c₂ → contractOf m o p = some c₁ → c.view = c₂.view := by
    rintro m c₁ c₂ rfl rfl hc₁
    exact congrArg Contract.view (Option.some.inj (hc.symm.trans hc₁))
  refine ⟨_, _, hexec, hv.handlerCalls, rfl, rfl, rfl, fun hm => ?setRTC, fun hm => ?setLED, fun hm => ?setVibrate,
    fun hm => ?enableButton, fun hm => ?disableButton, fun hm => ?writeLCD, fun hm => ?updateLCD,
    fun hm => ?getDeviceType⟩
  case setRTC =>
    exact ⟨fun hp => hview hm (setRTCContract_malformed hp) rfl,
      fun hp => ⟨rtcFields p, hview hm (setRTCContract_accept hp) rfl, rtcFields_year_toNat p, rfl, rfl, rfl, rfl, rfl,
        rfl, rfl⟩⟩
  case setLED => exact hview hm (setLEDContract_eq o) rfl
  case setVibrate =>
    exact ⟨fun hp => hview hm (setVibrateContract_malformed hp) rfl,
      fun hp => ⟨_, hview hm (setVibrateContract_accept hp) rfl, rfl, memRead2_toNat p 1, memRead2_toNat p 3, rfl⟩⟩
  case enableButton =>
    exact ⟨fun hp => hview hm (enableButtonContract_malformed hp) rfl,
      fun hp => hview hm (enableButtonContract_decoded hp) rfl⟩
  case disableButton =>
    exact ⟨fun hp => hview hm (disableButtonContract_malformed hp) rfl,
      fun hp => hview hm (disableButtonContract_accept hp) rfl⟩
  case writeLCD =>
    exact ⟨fun hp => hview hm (writeLCDContract_malformed hp) rfl, fun hp => hview hm (writeLCDContract_oneRow hp) rfl,
      fun hp => hview hm (writeLCDContract_twoRows hp) rfl⟩
  case updateLCD => exact hview hm (updateLCDContract_eq o) rfl
  case getDeviceType => exact hview hm (rfl : getDeviceTypeContract = .accept .getDeviceType) rfl

/-! ### Known but unsupported messages (R188) -/

/-- Settles O34: the three labelled rows have the default arm as their own, and the dispatcher selects it for any further
name. -/
theorem knownButUnsupportedMessagesAreNotImplemented : Obligations.KnownButUnsupportedMessagesAreNotImplemented := by
  intro s t o p ck hp hck
  have hrow : ∀ {n : MsgName}, s.catalog.name t = n →
      ∃ u, (s.receiveAs n t o p ck fun u => (u, .notImplemented n)) = .next u ∧ DeliveredToNobody s n t o p ck u :=
    fun hn => by
      rw [receiveAs_eq o ck _ hp hn]
      exact receive_default hck
  refine ⟨hrow, hrow, hrow, fun k hk => ?_⟩
  obtain ⟨u, hu, -, hnobody⟩ := anyFrameIsDispatchedAndAccepted s t o p ck hp hck
  rw [hk] at hnobody
  exact ⟨u, hu, hnobody (by simp [handlers])⟩

end Sys2Proof.Machine
end

section
/-! The handlers' contracts (O26 to O33, O44). A labelled row whose handler takes the frame delivers what the row's
contract says, and DISPATCH returns the contract's outcome; each statement then reads the contract of its own
payload. -/

namespace Sys2Proof.Machine

/-! ### Frames that a handler takes (R127, R186, R187) -/

/-- A labelled row with the right checksum completes; its handler asks for what the environment names, and gets what its
contract decodes. -/
theorem receiveAs_handler {s : State} {n : MsgName} {t o : Byte} {p : List Byte} {ck : U16} (c : Contract)
    (hp : p.length ≤ 249) (hn : s.catalog.name t = n) (hck : goodChecksum s t o p ck) :
    ∃ u, (s.receiveAs n t o p ck fun v => v.runHandler n c o p) = .next u ∧ handlerWillAsk s n (s.asks n) ∧
      DeliveredTo s n t o p ck c.view c.outcome (s.asks n) u := by
  obtain ⟨u, hu, hto⟩ := receive_handler c hck
  exact ⟨u, (receiveAs_eq o ck _ hp hn).trans hu, handlerWillAsk_asks s n, hto⟩

/-- What a handler was handed, read off an equation for its contract. -/
theorem DeliveredTo.of_contract_eq {s u : State} {n : MsgName} {t o : Byte} {p : List Byte} {ck : U16}
    {c c' : Contract} {asks : List ComposeRequest} (hto : DeliveredTo s n t o p ck c.view c.outcome asks u)
    (hc : c = c') : DeliveredTo s n t o p ck c'.view c'.outcome asks u := hc ▸ hto

/-- Settles O26: the lengths at which the contract is malformed, and the fields at every other length. -/
theorem setRTCFrameIsDecodedAndDelivered : Obligations.SetRTCFrameIsDecodedAndDelivered := by
  intro s o p ck hp hn hck
  obtain ⟨u, hu, hasks, hto⟩ := receiveAs_handler (setRTCContract p) hp hn hck
  refine ⟨u, _, hu, hasks, fun h => (hto.of_contract_eq (setRTCContract_malformed h) :), fun h => ?_⟩
  exact ⟨rtcFields p, (hto.of_contract_eq (setRTCContract_accept h) :), rtcFields_year_toNat p, rfl, rfl, rfl,
    rfl, rfl, rfl, rfl⟩

/-- Settles O27: the contract reads the option byte alone. -/
theorem setLEDFrameDeliversBitZero : Obligations.SetLEDFrameDeliversBitZero := by
  intro s t o p ck hp hn hck
  obtain ⟨u, hu, hasks, hto⟩ := receiveAs_handler (setLEDContract o) hp hn hck
  exact ⟨u, _, hu, hasks, (hto.of_contract_eq (setLEDContract_eq o) :)⟩

/-- Settles O28: malformed below 6 bytes; from there on both durations are words of the payload. -/
theorem setVibrateFrameIsDecodedAndDelivered : Obligations.SetVibrateFrameIsDecodedAndDelivered := by
  intro s t o p ck hp hn hck
  obtain ⟨u, hu, hasks, hto⟩ := receiveAs_handler (setVibrateContract p) hp hn hck
  refine ⟨u, _, hu, hasks, fun h => (hto.of_contract_eq (setVibrateContract_malformed h) :), fun h => ?_⟩
  exact ⟨_, (hto.of_contract_eq (setVibrateContract_accept h) :), rfl, memRead2_toNat p 1, memRead2_toNat p 3, rfl⟩

/-- Settles O29: malformed below 5 bytes; from there on the contract decodes, and its outcome turns on the callback
kind. -/
theorem enableButtonFrameChecksTheCallbackKind : Obligations.EnableButtonFrameChecksTheCallbackKind := by
  intro s t o p ck hp hn hck
  obtain ⟨u, hu, hasks, hto⟩ := receiveAs_handler (enableButtonContract p) hp hn hck
  exact ⟨u, _, hu, hasks, fun h => (hto.of_contract_eq (enableButtonContract_malformed h) :),
    fun h => (hto.of_contract_eq (enableButtonContract_decoded h) :)⟩

/-- Settles O30: malformed below 3 bytes, the key of the mapping from there on. -/
theorem disableButtonFrameIsDecodedAndDelivered : Obligations.DisableButtonFrameIsDecodedAndDelivered := by
  intro s t o p ck hp hn hck
  obtain ⟨u, hu, hasks, hto⟩ := receiveAs_handler (disableButtonContract p) hp hn hck
  exact ⟨u, _, hu, hasks, fun h => (hto.of_contract_eq (disableButtonContract_malformed h) :),
    fun h => (hto.of_contract_eq (disableButtonContract_accept h) :)⟩

/-- Settles O31: a record that is short, one record, or two. -/
theorem writeLCDFrameDeliversOneOrTwoRows : Obligations.WriteLCDFrameDeliversOneOrTwoRows := by
  intro s t o p ck hp hn hck
  obtain ⟨u, hu, hasks, hto⟩ := receiveAs_handler (writeLCDContract o p) hp hn hck
  exact ⟨u, _, hu, hasks, fun h => (hto.of_contract_eq (writeLCDContract_malformed h) :),
    fun h => (hto.of_contract_eq (writeLCDContract_oneRow h) :),
    fun h => (hto.of_contract_eq (writeLCDContract_twoRows h) :)⟩

/-- Settles O32: the contract reads the option byte alone. -/
theorem updateLCDFrameDeliversTheMode : Obligations.UpdateLCDFrameDeliversTheMode := by
  intro s t o p ck hp hn hck
  obtain ⟨u, hu, hasks, hto⟩ := receiveAs_handler (updateLCDContract o) hp hn hck
  exact ⟨u, _, hu, hasks, (hto.of_contract_eq (updateLCDContract_eq o) :)⟩

/-- Settles O33: what this handler asks for is a list of one request, whatever the environment names. -/
theorem getDeviceTypeFrameTriggersOneCompose : Obligations.GetDeviceTypeFrameTriggersOneCompose := by
  intro s t o p ck hp hn hck
  obtain ⟨u, hu, hasks, hto⟩ := receiveAs_handler getDeviceTypeContract hp hn hck
  exact ⟨u, _, hu, hasks, hto⟩

/-! ### The outcome that DISPATCH returns (R190, R211, R239) -/

theorem enableButtonContract_unsupported {p : List Byte} (h : 5 ≤ p.length) (hkind : p.getD 3 0 ≠ 0x34) :
    (enableButtonContract p).outcome = .failed (.notImplemented .unsupportedCallbackKind) := by
  rw [enableButtonContract_decoded h]
  exact if_neg hkind

theorem enableButtonContract_supported {p : List Byte} (h : 5 ≤ p.length) (hkind : p.getD 3 0 = 0x34) :
    (enableButtonContract p).outcome = .ok := by
  rw [enableButtonContract_decoded h]
  exact if_pos hkind

/-- A payload that is not malformed holds one row record or two. -/
theorem writeLCDContract_ok {o : Byte} {p : List Byte}
    (h : p.length = 13 ∨ (o.toNat / 16 % 2 = 1 ∧ 13 < p.length) ∨ 26 ≤ p.length) :
    (writeLCDContract o p).outcome = .ok := by
  have hrows : (p.length = 13 ∨ (o.toNat / 16 % 2 = 1 ∧ 13 < p.length)) ∨
      (o.toNat / 16 % 2 = 0 ∧ 26 ≤ p.length) := by omega
  rcases hrows with hone | htwo
  · rw [writeLCDContract_oneRow hone]; rfl
  · rw [writeLCDContract_twoRows htwo]; rfl

/-- Settles O44: a failure of the contract comes back whatever the handler asked for, an `Ok` if nothing was refused. -/
theorem handlerOutcomesFollowTheContracts : Obligations.HandlerOutcomesFollowTheContracts := by
  intro s t o p n hn hmem
  obtain ⟨c, hc⟩ := exists_contractOf o p hmem
  obtain ⟨v, h, hexec, hv, hreturn⟩ := exec_dispatch_handled hn hc
  have hcontract : ∀ {m : MsgName} {c' : Contract}, n = m → contractOf m o p = some c' → c = c' := by
    rintro m c' rfl hc'
    exact Option.some.inj (hc.symm.trans hc')
  have hfailed : ∀ {m : MsgName} {c' : Contract} {e : HandlerError}, n = m → c'.outcome = .failed e →
      contractOf m o p = some c' → h = .failed e := by
    intro m c' e hm hout hc'
    obtain rfl := hcontract hm hc'
    exact (hreturn (.inl (by rw [hout]; nofun))).trans hout
  have hok : ∀ {m : MsgName} {c' : Contract}, n = m → c'.outcome = .ok → contractOf m o p = some c' →
      AllFit (s.asks n) → h = .ok := by
    intro m c' hm hout hc' hfit
    obtain rfl := hcontract hm hc'
    exact (hreturn (.inr hfit)).trans hout
  refine ⟨_, s.asks n, h, hexec, handlerWillAsk_asks s n, congrArg (· ++ [_]) hv.results, fun hm => ?setRTC,
    fun hm => ?setVibrate, fun hm => ?enableButton, fun hm => ?disableButton, fun hm => ?writeLCD, ?payloadNotRead⟩
  case setRTC =>
    exact ⟨fun hp => hfailed hm (congrArg Contract.outcome (setRTCContract_malformed hp)) rfl,
      fun hp => hok hm (congrArg Contract.outcome (setRTCContract_accept hp)) rfl⟩
  case setVibrate =>
    exact ⟨fun hp => hfailed hm (congrArg Contract.outcome (setVibrateContract_malformed hp)) rfl,
      fun hp => hok hm (congrArg Contract.outcome (setVibrateContract_accept hp)) rfl⟩
  case enableButton =>
    exact ⟨fun hp => hfailed hm (congrArg Contract.outcome (enableButtonContract_malformed hp)) rfl,
      fun hp hkind => hfailed hm (enableButtonContract_unsupported hp hkind) rfl,
      fun hp hkind => hok hm (enableButtonContract_supported hp hkind) rfl⟩
  case disableButton =>
    exact ⟨fun hp => hfailed hm (congrArg Contract.outcome (disableButtonContract_malformed hp)) rfl,
      fun hp => hok hm (congrArg Contract.outcome (disableButtonContract_accept hp)) rfl⟩
  case writeLCD =>
    exact ⟨fun hp => hfailed hm (congrArg Contract.outcome (writeLCDContract_malformed hp)) rfl,
      fun hp => hok hm (writeLCDContract_ok hp) rfl⟩
  case payloadNotRead =>
    rintro (hm | hm | hm)
    · exact hok hm (rfl : (setLEDContract o).outcome = .ok) rfl
    · exact hok hm (rfl : (updateLCDContract o).outcome = .ok) rfl
    · exact hok hm (rfl : getDeviceTypeContract.outcome = .ok) rfl

end Sys2Proof.Machine
end

section
/-! Reset, hazards and configuration (O2, O3, O14, O19, O46, O58). The layers: the cases of a step outside a PARSE, what a
step inside one leaves of the waiting operations, the two reflection settings on palindromic bytes, and what the decoder
reports for the first part of a frame. -/

namespace Sys2Proof.Machine

/-! ### Reset and configuration (R260, R261, R263) -/

/-- Settles O2: RESET asks nothing of the state, and writes no table and no queue. -/
theorem resetAbandonsAndRestores : Obligations.ResetAbandonsAndRestores := fun _ =>
  ⟨_, rfl, rfl, rfl, rfl, rfl, rfl, rfl, rfl, rfl, rfl, rfl, rfl, rfl⟩

theorem exec_cfgWrite_idle {s : State} (v : Bool) (hidle : s.parse = none) :
    exec (.cfgWrite v) s = .next { s with reflectIn := v } :=
  if_neg (Option.not_isSome_iff_eq_none.mpr hidle)

/-- Settles O3: CFG.WRITE is admitted between transactions, and CHECKSUM reads the bit of the state it starts in. -/
theorem cfgWriteSetsTheBitForLaterChecksums : Obligations.CfgWriteSetsTheBitForLaterChecksums := fun _ v _ hidle =>
  ⟨exec_cfgWrite_idle v hidle, rfl⟩

/-! ### Which operation a step runs (R264, R265, R275) -/

/-- Settles O46, case by case of the step. -/
theorem stepStartsWaitingOperationsAndServesReset : Obligations.StepStartsWaitingOperationsAndServesReset := fun _ =>
  ⟨fun _ _ => step_idle_cons, step_idle_nil, step_resetLine⟩

theorem exec_requests {i : Instr} {s u : State} (h : exec i s = .next u) : u.requests = s.requests := by
  obtain ⟨-, -, -, hrequests, -⟩ := onlyCfgWriteAndResetChangeTheConfiguration i s u h
  exact hrequests

/-- Settles O19: a pass runs the frame at the cursor, and no instruction touches the waiting operations, or it reports a
framing error. -/
theorem operationsWaitWhileAParseRuns : Obligations.OperationsWaitWhileAParseRuns := by
  intro s u hp hr h
  cases hf : s.fetch with
  | ok fetched =>
    rw [step_fetch_ok hr hp hf] at h
    exact exec_requests h
  | error e =>
    rw [step_fetch_error hr hp hf] at h
    obtain ⟨_, hended⟩ := rejectFrame_endedWith h
    exact hended.setting.requests

/-! ### The two reflection settings (R270) -/

theorem crcUpdate_palindrome {b : Byte} (c : U16) (hb : reflect8 b = b) : crcUpdate true c b = crcUpdate false c b := by
  simp [crcUpdate, crcInput, hb]

/-- Settles O14: the settings agree on each update, and so on their fold. -/
theorem reflectionSettingsAgreeOnPalindromes : Obligations.ReflectionSettingsAgreeOnPalindromes := fun _ hD =>
  List.foldl_ext _ _ Config.crcSeed fun c b hb => crcUpdate_palindrome c (hD b hb)

/-! ### The first part of a split frame (R266) -/

/-- Cut behind the start byte the length byte is missing; cut anywhere later the declared length is not met. -/
theorem decode_take_error (cat : Catalog) {len : Byte} {tail : List Byte} {k : Nat} (hmin : 6 ≤ len.toNat)
    (hpos : 0 < k) (hk : k < len.toNat) :
    decode cat ((Config.startByte :: len :: tail).take k) = .error .lengthMissing ∨
      decode cat ((Config.startByte :: len :: tail).take k) = .error .shorterThanDeclared := by
  match k with
  | 1 => exact .inl (decode_lengthMissing cat)
  | j + 2 =>
    have hshort : (tail.take j).length + 2 < len.toNat := by rw [List.length_take]; omega
    exact .inr (decode_shorterThanDeclared cat (not_lt.mpr hmin) hshort)

/-- Settles O58: the one pass over the part is a failed fetch, which ends the PARSE with nothing delivered. -/
theorem splitFrameIsLost : Obligations.SplitFrameIsLost := by
  intro s a f k hidle hr hchunk hf hpos hk
  obtain ⟨hp, rfl⟩ := composeValue_eq_bytes hf
  obtain ⟨len, tail, hcons, hlen, hmin⟩ := composeBytes_eq_cons s.reflectIn a.msgType a.optionBits hp
  rw [hcons] at hchunk hk ⊢
  have hcut := decode_take_error s.catalog (tail := tail) hmin hpos (hlen ▸ hk)
  generalize (Config.startByte :: len :: tail).take k = part at hchunk hcut ⊢
  have hne : part ≠ [] := by rintro rfl; rcases hcut with h | h <;> cases h
  obtain ⟨u, hstep, hended⟩ : ∃ u, step (s.startParse part) = .next u ∧
      EndedWith (s.startParse part) .invalidMessageLengthMismatch u := by
    rcases hcut with h | h
    · rw [step_startParse_error hr h]
      exact rejectFrame_spec _ (e := .lengthMissing) nofun
    · rw [step_startParse_error hr h]
      exact rejectFrame_spec _ (e := .shorterThanDeclared) nofun
  exact ⟨_, u, exec_parse_start hidle hchunk hne, hstep, hended.parse, hended.rxb, hended.handlerCalls, hended.results⟩

end Sys2Proof.Machine
end

section
/-! The stops of CFG.WRITE and PARSE (O4, O18). What is refused or faulted while a PARSE is in progress, and the refusal of
a chunk above a fixed bound. -/

namespace Sys2Proof.Machine

/-! ### Inside a PARSE (R263, R264, U7, U8) -/

theorem exec_cfgWrite_busy {s : State} (v : Bool) (hbusy : s.parse ≠ none) :
    exec (.cfgWrite v) s = .refused .transactionInProgress :=
  if_pos (Option.isSome_iff_ne_none.mpr hbusy)

theorem exec_parse_busy {s : State} (chunk : List Byte) (hbusy : s.parse ≠ none) :
    exec (.parse chunk) s = .fault .parseInProgress :=
  if_pos (Option.isSome_iff_ne_none.mpr hbusy)

/-- Settles O4: CFG.WRITE looks for a PARSE in progress before it writes the bit. -/
theorem cfgWriteInsideParseIsRefused : Obligations.CfgWriteInsideParseIsRefused := fun _ v hbusy =>
  exec_cfgWrite_busy v hbusy

/-! ### A chunk above the bound (R24, U10) -/

theorem not_chunkAllowed_of_lt {s : State} {chunk : List Byte} {m : Nat} (hmax : s.rxMax = some m)
    (hlong : m < chunk.length) : ¬ chunkAllowed s chunk := fun hallowed =>
  (hallowed m hmax).not_gt hlong

theorem exec_parse_tooLong {s : State} {chunk : List Byte} (hidle : s.parse = none) (hlong : ¬ chunkAllowed s chunk) :
    exec (.parse chunk) s = .refused .chunkTooLong := by
  have hfits : s.chunkFits chunk = false := Bool.eq_false_iff.mpr (mt (chunkFits_iff s chunk).mp hlong)
  change execParse chunk s = _
  rw [execParse, hidle, hfits]
  rfl

/-- Settles O18: inside a PARSE the fault comes before the bound is looked at; outside one the bound decides. -/
theorem parseIsNotStartedInsideParseNorAboveTheBound : Obligations.ParseIsNotStartedInsideParseNorAboveTheBound :=
  fun _ chunk =>
    ⟨exec_parse_busy chunk, fun _ hidle hmax hlong => exec_parse_tooLong hidle (not_chunkAllowed_of_lt hmax hlong)⟩

end Sys2Proof.Machine
end
